-- ==== Sys2Proof/Word.lean ====
section
/-! DEFINITION. The three widths the spec moves: 32-bit register words, 16-bit ring words, bytes (R62). -/

namespace Sys2Proof

/-- A register value or a word on the host bus (R58: an integer, bit 0 least significant). -/
abbrev Word := BitVec 32

/-- A 16-bit ring word (R46). -/
abbrev Sample := BitVec 16

/-- One byte on the sink port (R59). -/
abbrev Byte := BitVec 8

end Sys2Proof
end

