-- ==== Sys2Proof/Config.lean ====
section
/-! DEFINITION. The parameters of an instance (R5, R6, R8, R15): fixed for the block's whole life. -/

namespace Sys2Proof

/-- The configuration triple of R15. P_BASE is left out, as R7 allows: the model sees the 8-bit offset only
(notes/assumptions/11.md). -/
structure Config where
  /-- P_CAP_MAX, the number of 16-bit words of ring memory (R5). -/
  capMax : Nat
  /-- P_HOST_LE, the storage byte order strap (R6). -/
  hostLe : Bool
  /-- P_DAMP_RESET, the reset value of DAMP (R8). -/
  dampReset : Word
  deriving DecidableEq, Repr

/-- The defaults of R5, R6 and R8 (notes/assumptions/12.md). -/
def Config.default : Config :=
  { capMax := 1048576, hostLe := true, dampReset := 0x03E8037B#32 }

end Sys2Proof
end

