-- ==== Sys2Proof/Syntax.lean ====
section
/-! DEFINITION. The operations of the block, one constructor per row of spec/opcode_table.json, and the two
formats that carry them (R71): BUS accesses (R72) and the commands a command word stands for (R73, R76). -/

namespace Sys2Proof

/-- One operation of the block. The first eight are command words written to CMD (R75, R77); the rest are bus
reads and bus writes of the mapped registers (R72), a write with the word it carries. -/
inductive Instr where
  | nop
  | configure
  | nextFrame
  | normalize
  | reduce
  | reduceSt (idx : BitVec 24)
  | softReset
  | reserved (word : Word)
  | rdId
  | rdStatus
  | rdErrcode
  | rdCmd
  | rdCap
  | rdFlen
  | rdCh
  | rdCursor
  | rdDamp
  | rdDredIn
  | rdDredOut
  | rdRingAddr
  | rdRingData
  | rdLastStart
  | rdLastTail
  | rdLastHead
  | rdLastRes
  | wrId (v : Word)
  | wrStatus (v : Word)
  | wrErrcode (v : Word)
  | wrCmd (v : Word)
  | wrCap (v : Word)
  | wrFlen (v : Word)
  | wrCh (v : Word)
  | wrCursor (v : Word)
  | wrDamp (v : Word)
  | wrDredIn (v : Word)
  | wrDredOut (v : Word)
  | wrRingAddr (v : Word)
  | wrRingData (v : Word)
  | wrLastStart (v : Word)
  | wrLastTail (v : Word)
  | wrLastHead (v : Word)
  | wrLastRes (v : Word)
  deriving DecidableEq, Repr

/-- What DecodeCmd answers (R76). -/
inductive Command where
  | bad
  | nop
  | configure
  | nextFrame
  | normalize
  | reduce
  | reduceSt (idx : BitVec 24)
  | softReset
  deriving DecidableEq, Repr

/-- The width of a host access (R53, R72): only 32 bits is defined, the two others are answered by BusError. -/
inductive Width where
  | w8
  | w16
  | w32
  deriving DecidableEq, Repr

/-- DIR of R72, with the word written where the access is a write. -/
inductive BusOp where
  | read
  | write (data : Word)
  deriving DecidableEq, Repr

/-- One host access as the bus carries it (R72): DIR and DATA, OFF, WIDTH. -/
structure BusAccess where
  op : BusOp
  off : BitVec 8
  width : Width
  deriving DecidableEq, Repr

/-- Why an access is no operation; the bus answers BusError for each (R53, R54). -/
inductive DecodeError where
  /-- an access of 8 or 16 bits (R53) -/
  | subWord
  /-- an offset that is no multiple of 4 (R53) -/
  | misaligned
  /-- an aligned offset that R19 does not list (R54) -/
  | unmapped
  deriving DecidableEq, Repr

end Sys2Proof
end

