-- ==== Sys2Proof/WellFormed.lean ====
section
/-! DEFINITION. Which terms of Instr stand for an access of the bus, each by one term only. A command word that a
CMDW row of R75 or R77 owns is that row's instruction, so a RESERVED_6_E holds only words of the opcodes 0x6 to 0xE,
and a WR_CMD only words that no CMDW row owns: the illegal RSV or ARG words of R78 (notes/assumptions/5.md). The
words are told apart here by the match and mask columns of R75. -/

namespace Sys2Proof

/-- Opcodes 0x6 to 0xE (R75, R77), whatever RSV and ARG hold. -/
def isReservedWord (w : Word) : Bool :=
  decide (0x60000000 ≤ w.toNat ∧ w.toNat < 0xF0000000)

/-- The words of REDUCE_ST: match 0x5000_0000 under mask 0xFF00_0000 (R75). -/
def isReduceStWord (w : Word) : Bool :=
  w &&& 0xFF000000#32 == 0x50000000#32

/-- The six words that R75 matches whole. -/
def isPlainCommandWord (w : Word) : Bool :=
  [0x00000000#32, 0x10000000#32, 0x20000000#32, 0x30000000#32, 0x40000000#32, 0xF0000000#32].contains w

/-- The words that some CMDW row of spec/opcode_table.json owns. -/
def isCommandWord (w : Word) : Bool :=
  isPlainCommandWord w || isReduceStWord w || isReservedWord w

/-- The check of each constructor's fields; the fields' types carry the rest (a 24-bit IDX, 32-bit words). -/
def wellFormed (i : Instr) : Bool :=
  match i with
  | .reserved w => isReservedWord w
  | .wrCmd v => !isCommandWord v
  | .nop => true
  | .configure => true
  | .nextFrame => true
  | .normalize => true
  | .reduce => true
  | .reduceSt _ => true
  | .softReset => true
  | .rdId => true
  | .rdStatus => true
  | .rdErrcode => true
  | .rdCmd => true
  | .rdCap => true
  | .rdFlen => true
  | .rdCh => true
  | .rdCursor => true
  | .rdDamp => true
  | .rdDredIn => true
  | .rdDredOut => true
  | .rdRingAddr => true
  | .rdRingData => true
  | .rdLastStart => true
  | .rdLastTail => true
  | .rdLastHead => true
  | .rdLastRes => true
  | .wrId _ => true
  | .wrStatus _ => true
  | .wrErrcode _ => true
  | .wrCap _ => true
  | .wrFlen _ => true
  | .wrCh _ => true
  | .wrCursor _ => true
  | .wrDamp _ => true
  | .wrDredIn _ => true
  | .wrDredOut _ => true
  | .wrRingAddr _ => true
  | .wrRingData _ => true
  | .wrLastStart _ => true
  | .wrLastTail _ => true
  | .wrLastHead _ => true
  | .wrLastRes _ => true

end Sys2Proof
end

