-- ==== Sys2Proof/Decode.lean ====
section
/-! DEFINITION. Decoding of command words (R73 to R78) and of host accesses (R53, R54, R72), total and rejecting by
name, and after it the encoder, written from the same tables of the spec. -/

namespace Sys2Proof

/-- OPC, bits 31:28 of a command word (R73). -/
def cmdOpc (w : Word) : BitVec 4 := w.extractLsb' 28 4

/-- RSV, bits 27:24 (R73). -/
def cmdRsv (w : Word) : BitVec 4 := w.extractLsb' 24 4

/-- ARG, bits 23:0 (R73); IDX of REDUCE_ST, neither scaled nor extended (R74). -/
def cmdArg (w : Word) : BitVec 24 := w.extractLsb' 0 24

/-- DecodeCmd, total on every word (R76). -/
def decodeCmd (w : Word) : Command :=
  if cmdRsv w ≠ 0#4 then .bad
  else if cmdOpc w = 0x5#4 then .reduceSt (cmdArg w)
  else if cmdArg w ≠ 0#24 then .bad
  else match (cmdOpc w).toNat with
    | 0x0 => .nop
    | 0x1 => .configure
    | 0x2 => .nextFrame
    | 0x3 => .normalize
    | 0x4 => .reduce
    | 0xF => .softReset
    | _ => .bad

/-- Opcodes 0x6 to 0xE are reserved, whatever RSV and ARG hold (R77). -/
def isReservedOpc (opc : BitVec 4) : Bool :=
  decide (0x6 ≤ opc.toNat ∧ opc.toNat ≤ 0xE)

/-- The instruction that a word written to CMD is: the CMDW row that owns the word (R75, R77), or, for a word that
none owns (R78), the bus write itself (notes/assumptions/5.md). -/
def decodeCmdWrite (v : Word) : Instr :=
  if isReservedOpc (cmdOpc v) then .reserved v
  else match decodeCmd v with
    | .bad => .wrCmd v
    | .nop => .nop
    | .configure => .configure
    | .nextFrame => .nextFrame
    | .normalize => .normalize
    | .reduce => .reduce
    | .reduceSt idx => .reduceSt idx
    | .softReset => .softReset

/-- The reads of the register map (R19, R72), by offset. -/
def decodeRead (off : Nat) : Except DecodeError Instr :=
  match off with
  | 0x00 => .ok .rdId
  | 0x04 => .ok .rdStatus
  | 0x08 => .ok .rdErrcode
  | 0x0C => .ok .rdCmd
  | 0x10 => .ok .rdCap
  | 0x14 => .ok .rdFlen
  | 0x18 => .ok .rdCh
  | 0x1C => .ok .rdCursor
  | 0x20 => .ok .rdDamp
  | 0x24 => .ok .rdDredIn
  | 0x28 => .ok .rdDredOut
  | 0x2C => .ok .rdRingAddr
  | 0x30 => .ok .rdRingData
  | 0x34 => .ok .rdLastStart
  | 0x38 => .ok .rdLastTail
  | 0x3C => .ok .rdLastHead
  | 0x40 => .ok .rdLastRes
  | _ => .error .unmapped

/-- The writes of the register map (R19, R72), by offset; a write to CMD carries a command word (R71). -/
def decodeWrite (off : Nat) (v : Word) : Except DecodeError Instr :=
  match off with
  | 0x00 => .ok (.wrId v)
  | 0x04 => .ok (.wrStatus v)
  | 0x08 => .ok (.wrErrcode v)
  | 0x0C => .ok (decodeCmdWrite v)
  | 0x10 => .ok (.wrCap v)
  | 0x14 => .ok (.wrFlen v)
  | 0x18 => .ok (.wrCh v)
  | 0x1C => .ok (.wrCursor v)
  | 0x20 => .ok (.wrDamp v)
  | 0x24 => .ok (.wrDredIn v)
  | 0x28 => .ok (.wrDredOut v)
  | 0x2C => .ok (.wrRingAddr v)
  | 0x30 => .ok (.wrRingData v)
  | 0x34 => .ok (.wrLastStart v)
  | 0x38 => .ok (.wrLastTail v)
  | 0x3C => .ok (.wrLastHead v)
  | 0x40 => .ok (.wrLastRes v)
  | _ => .error .unmapped

/-- The operation a host access is, or why it is none (R53, R54, R72). -/
def decode (a : BusAccess) : Except DecodeError Instr :=
  match a.width with
  | .w8 => .error .subWord
  | .w16 => .error .subWord
  | .w32 =>
    if a.off.toNat % 4 ≠ 0 then .error .misaligned
    else match a.op with
      | .read => decodeRead a.off.toNat
      | .write v => decodeWrite a.off.toNat v

/-- A command word from its three fields (R73). -/
def cmdWord (opc rsv : BitVec 4) (arg : BitVec 24) : Word := opc ++ rsv ++ arg

/-- The bus read of the register at an offset (R72). -/
def readAccess (off : BitVec 8) : BusAccess := { op := .read, off := off, width := .w32 }

/-- The bus write of a word to the register at an offset (R72). -/
def writeAccess (off : BitVec 8) (v : Word) : BusAccess := { op := .write v, off := off, width := .w32 }

/-- The bus write of a command word: offset 0x0C (R32, R71). -/
def commandAccess (w : Word) : BusAccess := writeAccess 0x0C#8 w

/-- The access that an instruction is (R72, R73, R75). -/
def encode (i : Instr) : BusAccess :=
  match i with
  | .nop => commandAccess (cmdWord 0x0#4 0#4 0#24)
  | .configure => commandAccess (cmdWord 0x1#4 0#4 0#24)
  | .nextFrame => commandAccess (cmdWord 0x2#4 0#4 0#24)
  | .normalize => commandAccess (cmdWord 0x3#4 0#4 0#24)
  | .reduce => commandAccess (cmdWord 0x4#4 0#4 0#24)
  | .reduceSt idx => commandAccess (cmdWord 0x5#4 0#4 idx)
  | .softReset => commandAccess (cmdWord 0xF#4 0#4 0#24)
  | .reserved w => commandAccess w
  | .rdId => readAccess 0x00#8
  | .rdStatus => readAccess 0x04#8
  | .rdErrcode => readAccess 0x08#8
  | .rdCmd => readAccess 0x0C#8
  | .rdCap => readAccess 0x10#8
  | .rdFlen => readAccess 0x14#8
  | .rdCh => readAccess 0x18#8
  | .rdCursor => readAccess 0x1C#8
  | .rdDamp => readAccess 0x20#8
  | .rdDredIn => readAccess 0x24#8
  | .rdDredOut => readAccess 0x28#8
  | .rdRingAddr => readAccess 0x2C#8
  | .rdRingData => readAccess 0x30#8
  | .rdLastStart => readAccess 0x34#8
  | .rdLastTail => readAccess 0x38#8
  | .rdLastHead => readAccess 0x3C#8
  | .rdLastRes => readAccess 0x40#8
  | .wrId v => writeAccess 0x00#8 v
  | .wrStatus v => writeAccess 0x04#8 v
  | .wrErrcode v => writeAccess 0x08#8 v
  | .wrCmd v => writeAccess 0x0C#8 v
  | .wrCap v => writeAccess 0x10#8 v
  | .wrFlen v => writeAccess 0x14#8 v
  | .wrCh v => writeAccess 0x18#8 v
  | .wrCursor v => writeAccess 0x1C#8 v
  | .wrDamp v => writeAccess 0x20#8 v
  | .wrDredIn v => writeAccess 0x24#8 v
  | .wrDredOut v => writeAccess 0x28#8 v
  | .wrRingAddr v => writeAccess 0x2C#8 v
  | .wrRingData v => writeAccess 0x30#8 v
  | .wrLastStart v => writeAccess 0x34#8 v
  | .wrLastTail v => writeAccess 0x38#8 v
  | .wrLastHead v => writeAccess 0x3C#8 v
  | .wrLastRes v => writeAccess 0x40#8 v

/-- The offset an access at bus address `addr` selects in a window placed at `base`, where it lies in the window
(R52: P_BASE .. P_BASE + 0xFF, offset a - P_BASE). That an address outside selects none is the model's choice; the
step takes the offset, as R7 allows (notes/assumptions/11.md). -/
def busOffset (base addr : Nat) : Option (BitVec 8) :=
  if base ≤ addr ∧ addr ≤ base + 0xFF then some (BitVec.ofNat 8 (addr - base)) else none

/-- The host access that carries an instruction whose bits are `w`, as spec/opcode_table.json numbers them: a row of
32 bits is a command word, written to CMD; a row of 8 bits gives OFF and no DIR bit, and is taken for the read of
that offset (notes/assumptions/4.md). -/
def tableAccess (nbits w : Nat) : BusAccess :=
  if nbits ≤ 8 then readAccess (BitVec.ofNat 8 w) else commandAccess (BitVec.ofNat 32 w)

/-- The instruction the decoder reads from a word of the opcode table. -/
def decodeTableWord (nbits w : Nat) : Option Instr :=
  match decode (tableAccess nbits w) with
  | .ok i => some i
  | .error _ => none

end Sys2Proof
end

