-- ==== Sys2Proof/Machine/State.lean ====
section
/-! DEFINITION. The state of the block (R17 to R50), the outcomes a step can stop with, and the state after reset
(R149, R150). -/

namespace Sys2Proof.Machine

/-- The ring memory (R46): the words written since hard reset, as (word index, word) pairs with strictly rising
indices. An index that is not listed is ⊥ (R12). The unit is the 16-bit word, the ring's smallest (R51, R62;
notes/assumptions/6.md). -/
abbrev Memory := List (Nat × Sample)

/-- The stored fields of STATUS (R21). HOST_LE (R29) is the strap and bits 31:8 (R30) read 0, so neither is stored
(notes/assumptions/13.md). -/
structure Status where
  busy : Bool
  configured : Bool
  err : Bool
  short : Bool
  wrap : Bool
  sat : Bool
  swapped : Bool
  deriving DecidableEq, Repr

/-- The error codes of R132; `noError` is NONE. -/
inductive ErrCode where
  | noError
  | cfgZero
  | cfgCapRange
  | cfgCapNotMultCh
  | cfgFrameGtCap
  | notConfigured
  | busy
  | badCmd
  | dampIllegal
  | ringRange
  | sinkFailure
  | sinkProtocol
  deriving DecidableEq, Repr

/-- What one of the three agents does next (R14): a host access, the sink's answer to a pending frame with any 32-bit
result (R121), or the reset input (R149). -/
inductive Input where
  | host (a : BusAccess)
  | sink (r : Word)
  | hardReset
  deriving DecidableEq, Repr

/-- The state of the block. The fields `status` to `frame` are the spec's (R19, R21, R46, R47); `cfg` is the constant
configuration (R15, notes/assumptions/1.md); `readData` and `inputs` are the model's own interface to the host and
the sink (notes/assumptions/9.md, notes/assumptions/2.md). ID, CMD and RING_DATA store nothing (R20, R32, R41). -/
structure State where
  /-- the configuration of the instance; no step changes it (R15) -/
  cfg : Config
  /-- STATUS (R21) -/
  status : Status
  /-- ERRCODE (R31) -/
  errcode : ErrCode
  /-- CAP (R33) -/
  cap : Word
  /-- FLEN (R34) -/
  flen : Word
  /-- CH (R35) -/
  ch : Word
  /-- CURSOR (R36) -/
  cursor : Word
  /-- DAMP (R37) -/
  damp : Word
  /-- DRED_IN (R38) -/
  dredIn : Word
  /-- DRED_OUT (R39) -/
  dredOut : Word
  /-- RING_ADDR (R40) -/
  ringAddr : Word
  /-- LAST_START (R42) -/
  lastStart : Word
  /-- LAST_TAIL (R43) -/
  lastTail : Word
  /-- LAST_HEAD (R44) -/
  lastHead : Word
  /-- LAST_RES (R45) -/
  lastRes : Word
  /-- RING (R46) -/
  ring : Memory
  /-- FRAME, the words presented to the sink (R47) -/
  frame : List Sample
  /-- the word returned to the latest completed host read; none when there was none since hard reset -/
  readData : Option Word
  /-- what host, sink and reset line do next, in order -/
  inputs : List Input
  deriving DecidableEq, Repr

/-- Why a step has no next state. -/
inductive Fault where
  /-- The bus error response to an access that is sub-word, misaligned or unmapped (R53, R54); raised by `step` when
  the access decodes to no operation. Safe: R53 gives it as a fault of the host's step, and nothing has changed. -/
  | busError
  /-- ModelFault(UninitRead) (R143): a word never written since hard reset is read out by a RING_DATA read (R86) or
  gathered into a frame (R119). Safe: the hardware goes on with unknown bits, the model gives them no value. -/
  | uninitRead
  deriving DecidableEq, Repr

/-- Why an instruction has no meaning. -/
inductive Refusal where
  /-- Raised by an arm of `exec` whose instruction is not modelled; no arm does so. Safe. -/
  | notModelled (mnemonic : String)
  deriving DecidableEq, Repr

/-- The outcome of one instruction. -/
abbrev Result := Host.Outcome State Fault Refusal

/-- STATUS with every stored field 0 (R21). -/
def Status.reset : Status :=
  { busy := false, configured := false, err := false, short := false, wrap := false, sat := false, swapped := false }

/-- The state after hard reset of an instance with configuration `c` (R149, R150): every register at the value of
R19, every ring word ⊥, FRAME empty, no input yet. -/
def State.resetWith (c : Config) : State :=
  { cfg := c
    status := Status.reset
    errcode := .noError
    cap := 0#32
    flen := 0#32
    ch := 0#32
    cursor := 0#32
    damp := c.dampReset
    dredIn := 0#32
    dredOut := 0#32
    ringAddr := 0#32
    lastStart := 0#32
    lastTail := 0#32
    lastHead := 0#32
    lastRes := 0#32
    ring := []
    frame := []
    readData := none
    inputs := [] }

/-- The machine right after reset, with the spec's default parameters (R5, R6, R8). -/
def State.reset : State := State.resetWith Config.default

end Sys2Proof.Machine
end

