-- ==== Sys2Proof/Machine/Operands.lean ====
section
/-! DEFINITION. The values instructions compute with: the arithmetic helpers of R10, the fields of DAMP, the frame
size, the segmenter's plan of a frame, the reduction function (R102 to R105), the words registers read as (R85) and
the byte forms of R59. No state changes here. -/

namespace Sys2Proof.Machine

/-- The greatest integer q with q·b ≤ a, for b > 0 (R10). -/
def floorDiv (a b : Int) : Int := Int.fdiv a b

/-- a/b rounded toward zero, for b > 0 (R10). -/
def truncDiv (a b : Int) : Int := Int.tdiv a b

/-- `v` held between `lo` and `hi` (R10). -/
def clampInt (v lo hi : Int) : Int := if v < lo then lo else if v > hi then hi else v

/-- w[7:0] : w[15:8] (R10, R109). -/
def swap16 (w : Sample) : Sample := w.extractLsb' 0 8 ++ w.extractLsb' 8 8

/-- NUM, bits 15:0 of DAMP, unsigned (R37). -/
def dampNum (v : Word) : Nat := (v.extractLsb' 0 16).toNat

/-- DEN, bits 31:16 of DAMP, unsigned (R37). -/
def dampDen (v : Word) : Nat := (v.extractLsb' 16 16).toNat

/-- The legal damping factors: DEN ≠ 0 and NUM ≤ DEN (R37). -/
def dampLegal (v : Word) : Bool := decide (dampDen v ≠ 0 ∧ dampNum v ≤ dampDen v)

/-- Step 1 of the reducer: bias and arithmetic shift, at full precision (R102). -/
def reduceShift (w : Word) : Int := floorDiv (w.toInt + 128) 256

/-- Step 2: clamp to the 16-bit signed range (R103). -/
def reduceClamp (t : Int) : Int := clampInt t (-32768) 32767

/-- Step 3: damping by NUM/DEN, rounding toward zero (R104). -/
def reduceDamp (damp : Word) (c : Int) : Int := truncDiv (c * dampNum damp) (dampDen damp)

/-- d of Reduce(w) under a DAMP value (R105: the clamp comes before the damping). -/
def reduceValue (damp w : Word) : Int := reduceDamp damp (reduceClamp (reduceShift w))

/-- sat of Reduce(w): the clamp changed its value (R103). -/
def reduceSat (w : Word) : Bool := decide (reduceClamp (reduceShift w) ≠ reduceShift w)

/-- N, the samples per write-frame, computed in ℤ (R13, R115). -/
def frameSize (s : State) : Nat := s.flen.toNat * s.ch.toNat

/-- How the issue step cuts a frame out of the ring: where it starts, how many words it takes from there, how many
from word 0, and whether it is a splice (R116). -/
structure FramePlan where
  start : Nat
  tail : Nat
  head : Nat
  wrap : Bool
  deriving DecidableEq, Repr

/-- Steps 1 to 3 of R116: contiguous when the frame ends at or before CAP (R117), spliced when it passes it (R118). -/
def framePlan (s : State) : FramePlan :=
  if s.cursor.toNat + frameSize s ≤ s.cap.toNat then
    { start := s.cursor.toNat, tail := frameSize s, head := 0, wrap := false }
  else
    { start := s.cursor.toNat
      tail := s.cap.toNat - s.cursor.toNat
      head := frameSize s - (s.cap.toNat - s.cursor.toNat)
      wrap := true }

/-- CODE of each error (R132). -/
def errCodeBits (e : ErrCode) : BitVec 8 :=
  match e with
  | .noError => 0x00#8
  | .cfgZero => 0x01#8
  | .cfgCapRange => 0x02#8
  | .cfgCapNotMultCh => 0x03#8
  | .cfgFrameGtCap => 0x04#8
  | .notConfigured => 0x05#8
  | .busy => 0x06#8
  | .badCmd => 0x07#8
  | .dampIllegal => 0x08#8
  | .ringRange => 0x09#8
  | .sinkFailure => 0x0A#8
  | .sinkProtocol => 0x0B#8

/-- What ID reads at all times (R20). -/
def idWord : Word := 0x52534701#32

/-- What ERRCODE reads: CODE in bits 7:0, bits 31:8 zero (R31). -/
def errcodeWord (s : State) : Word := (errCodeBits s.errcode).setWidth 32

/-- Bytes(w): a ring word in storage order, first byte first (R59). -/
def storageBytes (hostLe : Bool) (w : Sample) : List Byte :=
  if hostLe then [w.extractLsb' 0 8, w.extractLsb' 8 8] else [w.extractLsb' 8 8, w.extractLsb' 0 8]

/-- What the sink port presents (R57, R120). -/
structure SinkPort where
  /-- FRAME, in order -/
  words : List Sample
  /-- the same words serialised -/
  bytes : List Byte
  /-- the requested count, in channel groups -/
  requested : Word
  deriving DecidableEq, Repr

/-- The sink port: a frame while BUSY = 1, nothing otherwise (R120). -/
def sinkPort (s : State) : Option SinkPort :=
  if s.status.busy then
    some { words := s.frame, bytes := s.frame.flatMap (storageBytes s.cfg.hostLe), requested := s.flen }
  else none

end Sys2Proof.Machine
end

