-- ==== Sys2Proof/Machine/Flags.lean ====
section
/-! DEFINITION. STATUS: the word it reads as (R21) and every rule that writes one of its flags. -/

namespace Sys2Proof.Machine

/-- What STATUS reads: BUSY, CONFIGURED, ERR, SHORT, WRAP, SAT, SWAPPED and HOST_LE in bits 0 to 7, 0 in bits 31:8
(R21, R29, R30, R85). -/
def statusWord (s : State) : Word :=
  (BitVec.ofBool s.cfg.hostLe ++ BitVec.ofBool s.status.swapped ++ BitVec.ofBool s.status.sat
    ++ BitVec.ofBool s.status.wrap ++ BitVec.ofBool s.status.short ++ BitVec.ofBool s.status.err
    ++ BitVec.ofBool s.status.configured ++ BitVec.ofBool s.status.busy).setWidth 32

/-- CONFIGURED written (R23). -/
def setConfigured (b : Bool) (s : State) : State := { s with status := { s.status with configured := b } }

/-- SHORT written (R25). -/
def setShort (b : Bool) (s : State) : State := { s with status := { s.status with short := b } }

/-- BUSY written (R22). -/
def setBusy (b : Bool) (s : State) : State := { s with status := { s.status with busy := b } }

/-- SAT set when the clamp changed its value, never cleared by a reduction (R27, R106). -/
def stickSat (sat : Bool) (s : State) : State := { s with status := { s.status with sat := s.status.sat || sat } }

/-- SAT cleared (R27, R87). -/
def clearSat (s : State) : State := { s with status := { s.status with sat := false } }

/-- SWAPPED inverted by a NORMALIZE that swaps (R28). -/
def flipSwapped (s : State) : State := { s with status := { s.status with swapped := !s.status.swapped } }

/-- The STATUS that SOFT_RESET leaves: SWAPPED kept, every other stored field 0 (R101). -/
def softResetStatus (st : Status) : Status := { Status.reset with swapped := st.swapped }

/-- SHORT after a completed frame with a result between 0 and FLEN (R25, R122). -/
def isShort (r flen : Word) : Bool := decide (r.toInt < flen.toNat)

end Sys2Proof.Machine
end

