-- ==== Sys2Proof/Machine/Ops.lean ====
section
/-! DEFINITION. The shared operations: the ring (R55), error signalling and its return (R131, R137), the access
pipeline (R83, R84), and taking the next input (R14). -/

namespace Sys2Proof.Machine

/-- MemRead(i, 2): the word at index i, none for ⊥ (R55, R12). -/
def Memory.read (m : Memory) (i : Nat) : Option Sample :=
  match m with
  | [] => none
  | (a, w) :: rest => if a = i then some w else Memory.read rest i

/-- MemWrite(i, 2, v) (R55), in canonical form. -/
def Memory.write (m : Memory) (i : Nat) (v : Sample) : Memory :=
  match m with
  | [] => [(i, v)]
  | (a, w) :: rest =>
    if i < a then (i, v) :: (a, w) :: rest
    else if i = a then (i, v) :: rest
    else (a, w) :: Memory.write rest i v

/-- Every word with an index below `cap` byte-swapped in place, ⊥ left ⊥: the loop of R110 over i in 0 .. CAP-1. -/
def Memory.swapBelow (cap : Nat) (m : Memory) : Memory :=
  m.map fun e => if e.1 < cap then (e.1, swap16 e.2) else e

/-- The canonical form: strictly rising indices. Every listed word differs from ⊥, what an unlisted index reads as. -/
def Memory.wf (m : Memory) : Bool :=
  match m with
  | [] => true
  | (a, _) :: rest => rest.all (fun e => decide (a < e.1)) && Memory.wf rest

/-- RING[start, start + n), or none when one of the words is ⊥ (R11, R119). -/
def Memory.gather (m : Memory) (start n : Nat) : Option (List Sample) :=
  match n with
  | 0 => some []
  | k + 1 =>
    match Memory.read m start with
    | none => none
    | some w => (Memory.gather m (start + 1) k).map (w :: ·)

/-- SignalError: the first code since ERR was cleared is kept (R131). -/
def signalError (e : ErrCode) (s : State) : State :=
  { s with
    errcode := if s.status.err then s.errcode else e
    status := { s.status with err := true } }

/-- raise Error: signal it and end the operation (R131). -/
def raise (e : ErrCode) (s : State) : Result := .next (signalError e s)

/-- The return from an error: ERR and ERRCODE cleared by the host (R87, R137). -/
def clearError (s : State) : State :=
  { s with
    errcode := .noError
    status := { s.status with err := false } }

/-- The word a host read returns (R83). -/
def respond (v : Word) (s : State) : State := { s with readData := some v }

/-- A read of a register: its value returned, no side effect (R85). -/
def readReg (v : Word) (s : State) : Result := .next (respond v s)

/-- A write to a read-only register: ignored, whether BUSY is 0 or 1 (R84, R96). -/
def ignoreWrite (s : State) : Result := .next s

/-- The BUSY check of every other write but STATUS: dropped with error BUSY while a frame is with the sink (R84). -/
def hostWrite (body : State → Result) (s : State) : Result :=
  if s.status.busy then raise .busy s else body s

/-- The next thing an agent does, and the state from which it is done (R14); none when nobody acts. -/
def takeInput (s : State) : Option (Input × State) :=
  match s.inputs with
  | [] => none
  | x :: rest => some (x, { s with inputs := rest })

/-- Hard reset (R149, R151): the state after reset of the same instance. What the agents do afterwards stays
(notes/assumptions/10.md). -/
def hardReset (s : State) : State := { State.resetWith s.cfg with inputs := s.inputs }

end Sys2Proof.Machine
end

