-- ==== Sys2Proof/Machine/BusRead.lean ====
section
/-! DEFINITION. The bus reads, one per mapped register (R83, R85, R86, R97). All are allowed while BUSY = 1. -/

namespace Sys2Proof.Machine

/-- RdRingData: range error, UninitRead, or the word zero-extended and RING_ADDR stepped (R86). -/
def readRing (s : State) : Result :=
  if s.cfg.capMax ≤ s.ringAddr.toNat then .next (respond 0#32 (signalError .ringRange s))
  else
    match Memory.read s.ring s.ringAddr.toNat with
    | none => .fault .uninitRead
    | some w => .next (respond (w.setWidth 32) { s with ringAddr := s.ringAddr + 1#32 })

/-- A read of RING_DATA (R86). -/
def execRdRingData (s : State) : Result := readRing s

/-- A read of ID (R20, R85). -/
def execRdId (s : State) : Result := readReg idWord s

/-- A read of STATUS (R21, R85). -/
def execRdStatus (s : State) : Result := readReg (statusWord s) s

/-- A read of ERRCODE (R31, R85). -/
def execRdErrcode (s : State) : Result := readReg (errcodeWord s) s

/-- A read of CAP (R33, R85). -/
def execRdCap (s : State) : Result := readReg s.cap s

/-- A read of FLEN (R34, R85). -/
def execRdFlen (s : State) : Result := readReg s.flen s

/-- A read of CH (R35, R85). -/
def execRdCh (s : State) : Result := readReg s.ch s

/-- A read of CURSOR (R36, R85). -/
def execRdCursor (s : State) : Result := readReg s.cursor s

/-- A read of DAMP (R37, R85). -/
def execRdDamp (s : State) : Result := readReg s.damp s

/-- A read of DRED_IN (R38, R85). -/
def execRdDredIn (s : State) : Result := readReg s.dredIn s

/-- A read of DRED_OUT (R39, R85). -/
def execRdDredOut (s : State) : Result := readReg s.dredOut s

/-- A read of RING_ADDR (R40, R85). -/
def execRdRingAddr (s : State) : Result := readReg s.ringAddr s

/-- A read of LAST_START (R42, R85). -/
def execRdLastStart (s : State) : Result := readReg s.lastStart s

/-- A read of LAST_TAIL (R43, R85). -/
def execRdLastTail (s : State) : Result := readReg s.lastTail s

/-- A read of LAST_HEAD (R44, R85). -/
def execRdLastHead (s : State) : Result := readReg s.lastHead s

/-- A read of LAST_RES (R45, R85). -/
def execRdLastRes (s : State) : Result := readReg s.lastRes s

/-- A read of CMD (R97). -/
def execRdCmd (s : State) : Result := readReg 0#32 s

end Sys2Proof.Machine
end

