-- ==== Sys2Proof/Machine/Endian.lean ====
section
/-! DEFINITION. ENDN, the endianness normaliser: NORMALIZE (R110, R111). -/

namespace Sys2Proof.Machine

/-- Normalize: the configured ring swapped in place and SWAPPED inverted when P_HOST_LE = 1 (R110), nothing when
P_HOST_LE = 0 (R111). -/
def normalizeCmd (s : State) : Result :=
  if s.status.configured then
    if s.cfg.hostLe then .next (flipSwapped { s with ring := Memory.swapBelow s.cap.toNat s.ring })
    else .next s
  else raise .notConfigured s

/-- NORMALIZE, as a write to CMD (R110, R84). -/
def execNormalize (s : State) : Result := hostWrite normalizeCmd s

end Sys2Proof.Machine
end

