-- ==== Sys2Proof/Machine/Reducer.lean ====
section
/-! DEFINITION. DRED, the depth reducer: REDUCE (R106) and REDUCE_ST (R107). -/

namespace Sys2Proof.Machine

/-- What both commands do with Reduce(DRED_IN): DRED_OUT and SAT (R106, R107). -/
def writeReduced (s : State) : State :=
  stickSat (reduceSat s.dredIn) { s with dredOut := BitVec.ofInt 32 (reduceValue s.damp s.dredIn) }

/-- ReduceCmd (R106). -/
def reduceCmd (s : State) : Result := .next (writeReduced s)

/-- ReduceStore: the range of IDX is checked before anything is written (R107). -/
def reduceStore (idx : BitVec 24) (s : State) : Result :=
  if s.cfg.capMax ≤ idx.toNat then raise .ringRange s
  else
    .next { writeReduced s with
      ring := Memory.write s.ring idx.toNat (BitVec.ofInt 16 (reduceValue s.damp s.dredIn)) }

/-- REDUCE, as a write to CMD (R106, R84). -/
def execReduce (s : State) : Result := hostWrite reduceCmd s

/-- REDUCE_ST, as a write to CMD (R107, R84). -/
def execReduceSt (idx : BitVec 24) (s : State) : Result := hostWrite (reduceStore idx) s

end Sys2Proof.Machine
end

