-- ==== Sys2Proof/Machine/Segmenter.lean ====
section
/-! DEFINITION. SEG, the ring segmenter: the issue step of NEXT_FRAME (R116) and the sink's completion step (R122). -/

namespace Sys2Proof.Machine

/-- f of R116: the tail from the start, then the head from word 0; none when a word of it is ⊥ (R119). -/
def gatherFrame (m : Memory) (p : FramePlan) : Option (List Sample) :=
  match Memory.gather m p.start p.tail, Memory.gather m 0 p.head with
  | some t, some h => some (t ++ h)
  | _, _ => none

/-- The state in which the frame `f`, cut by the plan `p`, is with the sink (R116). -/
def presentFrame (p : FramePlan) (f : List Sample) (s : State) : State :=
  { s with
    cursor := if p.wrap then BitVec.ofNat 32 p.head else s.cursor
    lastStart := s.cursor
    lastTail := BitVec.ofNat 32 p.tail
    lastHead := BitVec.ofNat 32 p.head
    frame := f
    status := { s.status with wrap := p.wrap, busy := true } }

/-- IssueFrame (R116). -/
def issueFrame (s : State) : Result :=
  if s.status.configured then
    match gatherFrame s.ring (framePlan s) with
    | none => .fault .uninitRead
    | some f => .next (presentFrame (framePlan s) f s)
  else raise .notConfigured s

/-- NEXT_FRAME, as a write to CMD: the issue step (R116, R84). -/
def execNextFrame (s : State) : Result := hostWrite issueFrame s

/-- CURSOR after a result r between 0 and FLEN: r·CH samples on after a contiguous frame (R123), unmoved after a
splice (R124). -/
def consumeFrame (r : Word) (s : State) : State :=
  if s.status.wrap then s
  else { s with cursor := BitVec.ofNat 32 (s.cursor.toNat + r.toNat * s.ch.toNat) }

/-- What a result r does to the cursor and the flags (R122): a failure for r < 0 (R125), a protocol violation for
r > FLEN (R126), consumption otherwise. -/
def settleFrame (r : Word) (s : State) : State :=
  if r.toInt < 0 then signalError .sinkFailure (setShort false s)
  else if (s.flen.toNat : Int) < r.toInt then signalError .sinkProtocol (setShort false s)
  else consumeFrame r (setShort (isShort r s.flen) s)

/-- Complete(r) (R122). -/
def complete (r : Word) (s : State) : State :=
  setBusy false { settleFrame r { s with lastRes := r } with frame := [] }

/-- The sink's step: enabled only when BUSY = 1 (R121); a result that comes later is discarded (R151). -/
def answerSink (r : Word) (s : State) : State :=
  if s.status.busy then complete r s else s

end Sys2Proof.Machine
end

