-- ==== Sys2Proof/Machine/Control.lean ====
section
/-! DEFINITION. The control commands NOP, CONFIGURE and SOFT_RESET (R99 to R101), the reserved opcodes (R77), and the
dispatch of a decoded command (R98). -/

namespace Sys2Proof.Machine

/-- Nop (R99). -/
def nopCmd (s : State) : Result := .next s

/-- The first of CONFIGURE's checks that fails, in the order of R100; none when all pass. -/
def configureError (s : State) : Option ErrCode :=
  if s.cap.toNat = 0 ∨ s.flen.toNat = 0 ∨ s.ch.toNat = 0 then some .cfgZero
  else if s.cfg.capMax < s.cap.toNat then some .cfgCapRange
  else if s.cap.toNat % s.ch.toNat ≠ 0 then some .cfgCapNotMultCh
  else if s.cap.toNat < frameSize s then some .cfgFrameGtCap
  else none

/-- The start of a playback pass at cursor 0 (R100). -/
def startPass (s : State) : State :=
  { s with
    cursor := 0#32
    lastStart := 0#32
    lastTail := 0#32
    lastHead := 0#32
    lastRes := 0#32
    status := { s.status with short := false, wrap := false, configured := true } }

/-- Configure (R100). -/
def configureCmd (s : State) : Result :=
  match configureError s with
  | some e => raise e (setConfigured false s)
  | none => .next (startPass s)

/-- SoftReset (R101): every register at its reset value, the ring and SWAPPED kept; FRAME is empty already. -/
def softResetCmd (s : State) : Result :=
  .next { s with
    status := softResetStatus s.status
    errcode := .noError
    cap := 0#32
    flen := 0#32
    ch := 0#32
    cursor := 0#32
    damp := s.cfg.dampReset
    dredIn := 0#32
    dredOut := 0#32
    ringAddr := 0#32
    lastStart := 0#32
    lastTail := 0#32
    lastHead := 0#32
    lastRes := 0#32 }

/-- A word that DecodeCmd answers with BAD: error BAD_CMD and no other effect (R77, R78, R98). -/
def badCommand (s : State) : Result := raise .badCmd s

/-- ExecCmd (R98). -/
def execCmd (c : Command) (s : State) : Result :=
  match c with
  | .bad => badCommand s
  | .nop => nopCmd s
  | .configure => configureCmd s
  | .nextFrame => issueFrame s
  | .normalize => normalizeCmd s
  | .reduce => reduceCmd s
  | .reduceSt idx => reduceStore idx s
  | .softReset => softResetCmd s

/-- NOP, as a write to CMD (R99, R84). -/
def execNop (s : State) : Result := hostWrite nopCmd s

/-- CONFIGURE, as a write to CMD (R100, R84). -/
def execConfigure (s : State) : Result := hostWrite configureCmd s

/-- SOFT_RESET, as a write to CMD (R101, R84). -/
def execSoftReset (s : State) : Result := hostWrite softResetCmd s

/-- A reserved opcode written to CMD (R77, R84), whatever else the word holds. -/
def execReserved (_word : Word) (s : State) : Result := hostWrite badCommand s

end Sys2Proof.Machine
end

