-- ==== Sys2Proof/Machine/BusWrite.lean ====
section
/-! DEFINITION. The bus writes, one per mapped register (R84, R87 to R96). -/

namespace Sys2Proof.Machine

/-- ERR and ERRCODE cleared where the written word asks for it (R87). -/
def w1cError (v : Word) (s : State) : State := if v.getLsbD 2 then clearError s else s

/-- SAT cleared where the written word asks for it (R87). -/
def w1cSat (v : Word) (s : State) : State := if v.getLsbD 5 then clearSat s else s

/-- WrStatus (R87). -/
def writeStatus (v : Word) (s : State) : State := w1cSat v (w1cError v s)

/-- WrCap (R89). -/
def writeCap (v : Word) (s : State) : Result := .next (setConfigured false { s with cap := v })

/-- WrFlen (R90). -/
def writeFlen (v : Word) (s : State) : Result := .next (setConfigured false { s with flen := v })

/-- WrCh (R91). -/
def writeCh (v : Word) (s : State) : Result := .next (setConfigured false { s with ch := v })

/-- WrDamp: an illegal factor is dropped with DAMP_ILLEGAL (R92). -/
def writeDamp (v : Word) (s : State) : Result :=
  if dampLegal v then .next { s with damp := v } else raise .dampIllegal s

/-- WrDredIn (R93). -/
def writeDredIn (v : Word) (s : State) : Result := .next { s with dredIn := v }

/-- WrRingAddr (R94). -/
def writeRingAddr (v : Word) (s : State) : Result := .next { s with ringAddr := v }

/-- WrRingData: the low 16 bits stored as given and RING_ADDR stepped, or RING_RANGE (R95). -/
def writeRing (v : Word) (s : State) : Result :=
  if s.cfg.capMax ≤ s.ringAddr.toNat then raise .ringRange s
  else
    .next { s with
      ring := Memory.write s.ring s.ringAddr.toNat (v.setWidth 16)
      ringAddr := s.ringAddr + 1#32 }

/-- A write to STATUS, accepted while BUSY = 1 (R84, R87). -/
def execWrStatus (v : Word) (s : State) : Result := .next (writeStatus v s)

/-- A write to CMD: ExecCmd of DecodeCmd of the word (R88, R84). -/
def execWrCmd (v : Word) (s : State) : Result := hostWrite (execCmd (decodeCmd v)) s

/-- A write to CAP (R89, R84). -/
def execWrCap (v : Word) (s : State) : Result := hostWrite (writeCap v) s

/-- A write to FLEN (R90, R84). -/
def execWrFlen (v : Word) (s : State) : Result := hostWrite (writeFlen v) s

/-- A write to CH (R91, R84). -/
def execWrCh (v : Word) (s : State) : Result := hostWrite (writeCh v) s

/-- A write to DAMP (R92, R84). -/
def execWrDamp (v : Word) (s : State) : Result := hostWrite (writeDamp v) s

/-- A write to DRED_IN (R93, R84). -/
def execWrDredIn (v : Word) (s : State) : Result := hostWrite (writeDredIn v) s

/-- A write to RING_ADDR (R94, R84). -/
def execWrRingAddr (v : Word) (s : State) : Result := hostWrite (writeRingAddr v) s

/-- A write to RING_DATA (R95, R84). -/
def execWrRingData (v : Word) (s : State) : Result := hostWrite (writeRing v) s

/-- A write to ID: ignored (R96). -/
def execWrId (_v : Word) (s : State) : Result := ignoreWrite s

/-- A write to ERRCODE: ignored (R96). -/
def execWrErrcode (_v : Word) (s : State) : Result := ignoreWrite s

/-- A write to CURSOR: ignored (R96). -/
def execWrCursor (_v : Word) (s : State) : Result := ignoreWrite s

/-- A write to DRED_OUT: ignored (R96). -/
def execWrDredOut (_v : Word) (s : State) : Result := ignoreWrite s

/-- A write to LAST_START: ignored (R96). -/
def execWrLastStart (_v : Word) (s : State) : Result := ignoreWrite s

/-- A write to LAST_TAIL: ignored (R96). -/
def execWrLastTail (_v : Word) (s : State) : Result := ignoreWrite s

/-- A write to LAST_HEAD: ignored (R96). -/
def execWrLastHead (_v : Word) (s : State) : Result := ignoreWrite s

/-- A write to LAST_RES: ignored (R96). -/
def execWrLastRes (_v : Word) (s : State) : Result := ignoreWrite s

end Sys2Proof.Machine
end

