-- ==== Sys2Proof/Machine/Dispatch.lean ====
section
/-! DEFINITION. One arm per constructor of Instr, each one call of that instruction's meaning. -/

namespace Sys2Proof.Machine

def exec (i : Instr) (s : State) : Host.Outcome State Fault Refusal :=
  match i with
  | .nop => Sys2Proof.Machine.execNop s
  | .configure => Sys2Proof.Machine.execConfigure s
  | .nextFrame => Sys2Proof.Machine.execNextFrame s
  | .normalize => Sys2Proof.Machine.execNormalize s
  | .reduce => Sys2Proof.Machine.execReduce s
  | .reduceSt idx => Sys2Proof.Machine.execReduceSt idx s
  | .softReset => Sys2Proof.Machine.execSoftReset s
  | .reserved word => Sys2Proof.Machine.execReserved word s
  | .rdId => Sys2Proof.Machine.execRdId s
  | .rdStatus => Sys2Proof.Machine.execRdStatus s
  | .rdErrcode => Sys2Proof.Machine.execRdErrcode s
  | .rdCmd => Sys2Proof.Machine.execRdCmd s
  | .rdCap => Sys2Proof.Machine.execRdCap s
  | .rdFlen => Sys2Proof.Machine.execRdFlen s
  | .rdCh => Sys2Proof.Machine.execRdCh s
  | .rdCursor => Sys2Proof.Machine.execRdCursor s
  | .rdDamp => Sys2Proof.Machine.execRdDamp s
  | .rdDredIn => Sys2Proof.Machine.execRdDredIn s
  | .rdDredOut => Sys2Proof.Machine.execRdDredOut s
  | .rdRingAddr => Sys2Proof.Machine.execRdRingAddr s
  | .rdRingData => Sys2Proof.Machine.execRdRingData s
  | .rdLastStart => Sys2Proof.Machine.execRdLastStart s
  | .rdLastTail => Sys2Proof.Machine.execRdLastTail s
  | .rdLastHead => Sys2Proof.Machine.execRdLastHead s
  | .rdLastRes => Sys2Proof.Machine.execRdLastRes s
  | .wrId v => Sys2Proof.Machine.execWrId v s
  | .wrStatus v => Sys2Proof.Machine.execWrStatus v s
  | .wrErrcode v => Sys2Proof.Machine.execWrErrcode v s
  | .wrCmd v => Sys2Proof.Machine.execWrCmd v s
  | .wrCap v => Sys2Proof.Machine.execWrCap v s
  | .wrFlen v => Sys2Proof.Machine.execWrFlen v s
  | .wrCh v => Sys2Proof.Machine.execWrCh v s
  | .wrCursor v => Sys2Proof.Machine.execWrCursor v s
  | .wrDamp v => Sys2Proof.Machine.execWrDamp v s
  | .wrDredIn v => Sys2Proof.Machine.execWrDredIn v s
  | .wrDredOut v => Sys2Proof.Machine.execWrDredOut v s
  | .wrRingAddr v => Sys2Proof.Machine.execWrRingAddr v s
  | .wrRingData v => Sys2Proof.Machine.execWrRingData v s
  | .wrLastStart v => Sys2Proof.Machine.execWrLastStart v s
  | .wrLastTail v => Sys2Proof.Machine.execWrLastTail v s
  | .wrLastHead v => Sys2Proof.Machine.execWrLastHead v s
  | .wrLastRes v => Sys2Proof.Machine.execWrLastRes v s

end Sys2Proof.Machine
end

