-- ==== Sys2Proof/Machine/Step.lean ====
section
/-! DEFINITION. One step of the machine: the next input of one of the three agents (R14). -/

namespace Sys2Proof.Machine

/-- One step. A host access is decoded and run (R83, R84), and answered by BusError where it is no operation (R53,
R54); a sink result completes the pending frame (R122); hard reset resets (R149). With no input the block waits
(R14, R152): the state stays as it is (notes/assumptions/3.md). -/
def step (s : State) : Host.Outcome State Fault Refusal :=
  match takeInput s with
  | none => .next s
  | some (.host a, t) =>
    match decode a with
    | .ok i => exec i t
    | .error _ => .fault .busError
  | some (.sink r, t) => .next (answerSink r t)
  | some (.hardReset, t) => .next (hardReset t)

/-- `s` with the host's next access being the instruction whose bits are `w` (notes/assumptions/2.md). -/
def State.withFetchWord (s : State) (nbits w : Nat) : State :=
  { s with inputs := .host (tableAccess nbits w) :: s.inputs }

end Sys2Proof.Machine
end

