-- ==== Sys2Proof/Machine/Script.lean ====
section
/-! DEFINITION. The line notation of host programs (R81) and its pseudo-instructions (R82), as what the agents do. -/

namespace Sys2Proof.Machine

/-- One line of a host program. -/
inductive ScriptLine where
  /-- `wr NAME, v`, `rd NAME`, `cmd MNEMONIC` or `cmd REDUCE_ST idx` -/
  | op (i : Instr)
  /-- `sink r`: no host operation, the sink's completion step -/
  | sink (r : Word)
  /-- `ldring base, v0, …, vk` -/
  | ldring (base : Word) (words : List Word)
  /-- `cfg cap, flen, ch` -/
  | cfg (cap flen ch : Word)
  /-- `frame r` -/
  | frame (r : Word)
  /-- `reduce v` -/
  | reduce (v : Word)
  /-- `reduce_st v, idx` -/
  | reduceSt (v : Word) (idx : BitVec 24)
  /-- `clrerr` -/
  | clrerr
  /-- `clrsat` -/
  | clrsat
  /-- `wait`, ended by the host at its `polls`-th read of STATUS; how many it takes depends on when the sink answers
  (notes/assumptions/15.md) -/
  | wait (polls : Nat)
  deriving DecidableEq, Repr

/-- The host access that an instruction is, as an input. -/
def hostOp (i : Instr) : Input := .host (encode i)

/-- The expansions of R81 and R82. -/
def expandLine (l : ScriptLine) : List Input :=
  match l with
  | .op i => [hostOp i]
  | .sink r => [.sink r]
  | .ldring base words => hostOp (.wrRingAddr base) :: words.map fun v => hostOp (.wrRingData v)
  | .cfg cap flen ch => [hostOp (.wrCap cap), hostOp (.wrFlen flen), hostOp (.wrCh ch), hostOp .configure]
  | .frame r => [hostOp .nextFrame, .sink r]
  | .reduce v => [hostOp (.wrDredIn v), hostOp .reduce]
  | .reduceSt v idx => [hostOp (.wrDredIn v), hostOp (.reduceSt idx)]
  | .clrerr => [hostOp (.wrStatus 0x00000004#32)]
  | .clrsat => [hostOp (.wrStatus 0x00000020#32)]
  | .wait polls => List.replicate polls (hostOp .rdStatus)

/-- A host program as what the agents do, in order. -/
def expandScript (ls : List ScriptLine) : List Input := ls.flatMap expandLine

/-- Whether the latest read of STATUS ends a `wait`: its bit 0 (BUSY) read 0 (R82). -/
def waitDone (s : State) : Bool :=
  match s.readData with
  | some v => !v.getLsbD 0
  | none => false

end Sys2Proof.Machine
end

