-- ==== Sys2Proof/Safety.lean ====
section
/-! DEFINITION. The terms claims are stated in: legal configurations, the invariant of the block (R50 and the rules
beside it), final and hanging states (R16, R162), and playback with full writes (R128, R129). -/

namespace Sys2Proof.Machine

/-- A configuration within the bounds of R5 and R8. -/
abbrev ConfigLegal (c : Config) : Prop :=
  1 ≤ c.capMax ∧ c.capMax ≤ 2 ^ 24 ∧ dampLegal c.dampReset = true

/-- The ring in canonical form, with every written word inside 0 .. P_CAP_MAX-1 (R46, R55). -/
abbrev RingOk (s : State) : Prop :=
  Memory.wf s.ring = true ∧ s.ring.all (fun e => decide (e.1 < s.cfg.capMax)) = true

/-- R50 and the checks of R100 that establish it: while CONFIGURED = 1 the geometry is legal and the cursor is inside
the ring. -/
abbrev GeometryOk (s : State) : Prop :=
  s.status.configured = true →
    1 ≤ s.flen.toNat ∧ 1 ≤ s.ch.toNat ∧ frameSize s ≤ s.cap.toNat ∧ s.cap.toNat ≤ s.cfg.capMax ∧
      s.cap.toNat % s.ch.toNat = 0 ∧ s.cursor.toNat ≤ s.cap.toNat

/-- R47: FRAME is empty while BUSY = 0. -/
abbrev IdleOk (s : State) : Prop := s.status.busy = false → s.frame = []

/-- While BUSY = 1: the block is configured (R116), FRAME has length N (R47), its words are LAST_TAIL + LAST_HEAD
(R43, R44), a contiguous frame ends inside the ring with CURSOR at its start (R117), and after a splice CURSOR is
headCount (R118). -/
abbrev PendingOk (s : State) : Prop :=
  s.status.busy = true →
    s.status.configured = true ∧ s.frame.length = frameSize s ∧
      s.lastTail.toNat + s.lastHead.toNat = frameSize s ∧
      (s.status.wrap = false → s.cursor = s.lastStart ∧ s.cursor.toNat + frameSize s ≤ s.cap.toNat) ∧
      (s.status.wrap = true → s.cursor = s.lastHead ∧ 1 ≤ s.lastHead.toNat)

/-- R31, R131: a code is held exactly while ERR = 1. -/
abbrev ErrorOk (s : State) : Prop := s.status.err = true ↔ s.errcode ≠ .noError

/-- R39: DRED_OUT is the sign-extension of its low 16 bits. -/
abbrev DredOutOk (s : State) : Prop := (s.dredOut.setWidth 16).signExtend 32 = s.dredOut

/-- The invariant of the block: it holds after reset of every legal configuration and every step keeps it. -/
abbrev Inv (s : State) : Prop :=
  ConfigLegal s.cfg ∧ RingOk s ∧ dampLegal s.damp = true ∧ GeometryOk s ∧ IdleOk s ∧ PendingOk s ∧ ErrorOk s ∧
    DredOutOk s

/-- Whether an input is an access of the host. -/
def isHostInput (x : Input) : Bool :=
  match x with
  | .host _ => true
  | .sink _ => false
  | .hardReset => false

/-- A run has ended: the host has no further access to make and BUSY = 0 (R16). -/
def Final (s : State) : Bool := s.inputs.all (fun x => !isHostInput x) && !s.status.busy

/-- A hang: a frame is with the sink and nobody acts any more (R148, R162). -/
def Hanging (s : State) : Bool := s.inputs.isEmpty && s.status.busy

/-- Nothing with the sink: BUSY = 0. -/
abbrev Idle (s : State) : Prop := s.status.busy = false

/-- Every word of the configured ring has been written since hard reset (R153 step 1). -/
abbrev RingLoaded (s : State) : Prop := ∀ i, i < s.cap.toNat → (Memory.read s.ring i).isSome = true

/-- One step of the machine in which the only thing that happens is `x`; none where it stops. -/
def after (x : Input) (s : State) : Option State :=
  match step { s with inputs := [x] } with
  | .next t => some t
  | .fault _ => none
  | .refused _ => none

/-- One frame, accepted whole by the sink (the premise of R128): the words presented, and the state afterwards. -/
def playFullFrame (s : State) : Option (List Sample × State) :=
  match after (hostOp .nextFrame) s with
  | none => none
  | some t =>
    match after (.sink t.flen) t with
    | none => none
    | some u => some (t.frame, u)

/-- `k` frames, each accepted whole: all the words presented, in order, and the state afterwards (R128, R129). -/
def playFullFrames (k : Nat) (s : State) : Option (List Sample × State) :=
  match k with
  | 0 => some ([], s)
  | n + 1 =>
    match playFullFrame s with
    | none => none
    | some (ws, t) => (playFullFrames n t).map fun p => (ws ++ p.1, p.2)

end Sys2Proof.Machine
end

