-- ==== Sys2Proof/Certificates/Slice0/Obligations.lean ====
section
/-! DEFINITION. The statements for the provers. Each docstring names the rule of spec/ it states, or the choice of the
model it rests on. An instruction's statement that ends in `= .next { s with … }` is its result, its completion and
its frame at once: every field of State that is not named there is unchanged, the ring included. -/

open Sys2Proof Sys2Proof.Machine

/-! ## Encoding -/

/-- R71 to R76: decoding what a well-formed instruction is encoded as gives that instruction, with every operand at
every value its field admits. That a CMD write is the command row owning its word, where one does, and WR_CMD otherwise
is the model's choice (notes/assumptions/5.md). -/
def Obligations.DecodeEncodeAgree : Prop :=
  ∀ i : Instr, wellFormed i = true → decode (encode i) = .ok i

/-- R71 to R76: an access that decodes is the encoding of one well-formed instruction, so no bit of it is dropped. Which of its two rows a CMD write is, is the model's choice (notes/assumptions/5.md). -/
def Obligations.DecodedAccessIsItsEncoding : Prop :=
  ∀ (a : BusAccess) (i : Instr), decode a = .ok i → wellFormed i = true ∧ encode i = a

/-- R75, R76: the command words, by the match and mask columns of R75. -/
def Obligations.CommandWordsByMatchAndMask : Prop :=
  ∀ w : Word,
    (decodeCmd w = .nop ↔ w = 0x00000000#32) ∧
    (decodeCmd w = .configure ↔ w = 0x10000000#32) ∧
    (decodeCmd w = .nextFrame ↔ w = 0x20000000#32) ∧
    (decodeCmd w = .normalize ↔ w = 0x30000000#32) ∧
    (decodeCmd w = .reduce ↔ w = 0x40000000#32) ∧
    (decodeCmd w = .softReset ↔ w = 0xF0000000#32) ∧
    (∀ idx : BitVec 24, decodeCmd w = .reduceSt idx ↔
      w &&& 0xFF000000#32 = 0x50000000#32 ∧ idx.toNat = w.toNat % 2 ^ 24) ∧
    (decodeCmd w = .bad ↔
      w &&& 0xFF000000#32 ≠ 0x50000000#32 ∧ w ≠ 0x00000000#32 ∧ w ≠ 0x10000000#32 ∧ w ≠ 0x20000000#32 ∧
        w ≠ 0x30000000#32 ∧ w ≠ 0x40000000#32 ∧ w ≠ 0xF0000000#32)

/-- Words written out from the tables of R19, R72 and R75 decode to the instructions they stand for. Two clauses are
the model's choice and no rule's: that the 8-bit word 0x30 is RD_RING_DATA, since the table gives it no direction and
WR_RING_DATA has the same bits (notes/assumptions/4.md); and that the CMD write of 0x2100_0000, which no command row
owns, is WR_CMD (notes/assumptions/5.md). -/
def Obligations.SampleWordsDecode : Prop :=
  decodeTableWord 32 0x10000000 = some .configure ∧
  decodeTableWord 32 0x20000000 = some .nextFrame ∧
  decodeTableWord 32 0x50000005 = some (.reduceSt 5#24) ∧
  decodeTableWord 32 0xE0000000 = some (.reserved 0xE0000000#32) ∧
  decodeTableWord 8 0x30 = some .rdRingData ∧
  decode { op := .write 8#32, off := 0x10#8, width := .w32 } = .ok (.wrCap 8#32) ∧
  decode { op := .write 0x30000000#32, off := 0x0C#8, width := .w32 } = .ok .normalize ∧
  decode { op := .write 0x21000000#32, off := 0x0C#8, width := .w32 } = .ok (.wrCmd 0x21000000#32)

/-- `busOffset`: an access at bus address a of a window placed at a multiple of 256 selects offset a - P_BASE, as R52
says, which is then the address's low byte. That an address outside the window selects none is the model's choice and
not R52's, and so is `busOffset` itself: the step takes the offset and does not use it (notes/assumptions/11.md). -/
def Obligations.WindowOffset : Prop :=
  ∀ base addr : Nat, base % 256 = 0 →
    (base ≤ addr → addr ≤ base + 0xFF →
      ∃ o, busOffset base addr = some o ∧ o.toNat = addr - base ∧ o.toNat = addr % 256) ∧
    ((addr < base ∨ base + 0xFF < addr) → busOffset base addr = none)

/-- R82: pseudo-instructions as the bus accesses their rows list, with the offsets of R19 and the words of R75. -/
def Obligations.PseudoInstructionsExpand : Prop :=
  ∀ (v cap flen ch r base : Word) (words : List Word) (idx : BitVec 24),
    expandLine (.cfg cap flen ch) =
      [.host (writeAccess 0x10#8 cap), .host (writeAccess 0x14#8 flen), .host (writeAccess 0x18#8 ch),
        .host (writeAccess 0x0C#8 0x10000000#32)] ∧
    expandLine (.frame r) = [.host (writeAccess 0x0C#8 0x20000000#32), .sink r] ∧
    expandLine (.ldring base words) =
      .host (writeAccess 0x2C#8 base) :: words.map (fun w => .host (writeAccess 0x30#8 w)) ∧
    expandLine (.reduce v) = [.host (writeAccess 0x24#8 v), .host (writeAccess 0x0C#8 0x40000000#32)] ∧
    expandLine (.reduceSt v idx) =
      [.host (writeAccess 0x24#8 v), .host (writeAccess 0x0C#8 (0x50000000#32 ||| idx.setWidth 32))] ∧
    expandLine .clrerr = [.host (writeAccess 0x04#8 0x00000004#32)] ∧
    expandLine .clrsat = [.host (writeAccess 0x04#8 0x00000020#32)]

/-! ## The step -/

/-- R83, R84: when the host's next access decodes to an instruction, the step is that instruction's meaning, run in
the state from which the access has been taken. -/
def Obligations.StepRunsDecodedInstruction : Prop :=
  ∀ (s : State) (a : BusAccess) (rest : List Input) (i : Instr),
    s.inputs = .host a :: rest → decode a = .ok i → step s = exec i { s with inputs := rest }

/-- R53, R54: an access that is not 32 bits wide, not at a multiple of 4 or at an offset above 0x40 ends the step in
the fault BusError, with no next state; every other access is an instruction, and its step is no BusError, whatever
else the state makes of it. -/
def Obligations.BusErrorExactly : Prop :=
  ∀ (s : State) (a : BusAccess) (rest : List Input), s.inputs = .host a :: rest →
    ((a.width ≠ .w32 ∨ a.off.toNat % 4 ≠ 0 ∨ 0x44 ≤ a.off.toNat) → step s = .fault .busError) ∧
    (a.width = .w32 → a.off.toNat % 4 = 0 → a.off.toNat ≤ 0x40 →
      (∃ i, decode a = .ok i) ∧ step s ≠ .fault .busError)

/-- A sink result that is next in any idle state is taken from the inputs and changes nothing else. This is the model's
choice (notes/assumptions/17.md): R121 says only that the sink's step is not enabled then, and R151 that the result for
a frame which a hard reset abandoned is discarded. -/
def Obligations.LateSinkResultDiscarded : Prop :=
  ∀ (s : State) (r : Word) (rest : List Input),
    Idle s → s.inputs = .sink r :: rest → step s = .next { s with inputs := rest }

/-- R148, R162: where nobody acts the block makes no step of its own, so a sink that never answers holds BUSY = 1.
That the model then answers the same state is its own choice (notes/assumptions/3.md). -/
def Obligations.HangIsKept : Prop :=
  ∀ (s : State) (k : Nat), s.inputs = [] → Sys2Proof.core.run k s = .next s

/-! ## Reset -/

/-- R149: after hard reset, asserted in any state, every register of R19 holds its reset value, STATUS too, every ring
word is ⊥ and FRAME is empty. -/
def Obligations.HardResetValues : Prop :=
  ∀ (s : State) (rest : List Input), s.inputs = .hardReset :: rest →
    ∃ t, step s = .next t ∧
      t.status = { busy := false, configured := false, err := false, short := false, wrap := false, sat := false,
                   swapped := false } ∧
      statusWord t = (if s.cfg.hostLe then 0x00000080#32 else 0#32) ∧
      idWord = 0x52534701#32 ∧ errcodeWord t = 0#32 ∧ t.cap = 0#32 ∧ t.flen = 0#32 ∧ t.ch = 0#32 ∧
      t.cursor = 0#32 ∧ t.damp = s.cfg.dampReset ∧ Config.default.dampReset = 0x03E8037B#32 ∧
      t.dredIn = 0#32 ∧ t.dredOut = 0#32 ∧ t.ringAddr = 0#32 ∧ t.lastStart = 0#32 ∧ t.lastTail = 0#32 ∧
      t.lastHead = 0#32 ∧ t.lastRes = 0#32 ∧ (∀ i, Memory.read t.ring i = none) ∧ t.frame = []

/-- R19, R21: what a host reads right after reset with the default parameters, and STATUS with P_HOST_LE = 0. -/
def Obligations.ReadsAfterReset : Prop :=
  exec .rdId State.reset = .next { State.reset with readData := some 0x52534701#32 } ∧
  exec .rdStatus State.reset = .next { State.reset with readData := some 0x00000080#32 } ∧
  exec .rdDamp State.reset = .next { State.reset with readData := some 0x03E8037B#32 } ∧
  exec .rdCmd State.reset = .next { State.reset with readData := some 0#32 } ∧
  exec .rdCursor State.reset = .next { State.reset with readData := some 0#32 } ∧
  statusWord (State.resetWith { Config.default with hostLe := false }) = 0#32

/-! ## Invariants -/

/-- The invariant (R50 with the rules beside it, see `Inv`) holds after reset of every legal configuration, the default
one among them. -/
def Obligations.InvHoldsAfterReset : Prop :=
  ConfigLegal Config.default ∧ Inv State.reset ∧ ∀ c, ConfigLegal c → Inv (State.resetWith c)

/-- R50 (CURSOR and frame size inside the ring while configured), R37 (DAMP legal), R47 (FRAME is N words while BUSY = 1
and empty otherwise), R31 (a code is held exactly while ERR = 1), R39, R46: every step from a state that meets the
invariant gives a state that meets it, whatever host, sink and reset line do. The ring's canonical form, one part of
`Inv`, is the model's choice (notes/assumptions/6.md). -/
def Obligations.StepKeepsInv : Prop :=
  ∀ s t : State, Inv s → step s = .next t → Inv t

/-- The ring stays in canonical form, whatever else the state holds. That form, strictly rising indices, is the model's
choice of representation and no rule's (notes/assumptions/6.md). -/
def Obligations.StepKeepsRingCanonical : Prop :=
  ∀ s t : State, Memory.wf s.ring = true → step s = .next t → Memory.wf t.ring = true

/-- Canonical rings that read the same at every index are equal data. The canonical list is the model's choice of
representation and no rule's (notes/assumptions/6.md). -/
def Obligations.CanonicalRingsEqualWhenReadsAgree : Prop :=
  ∀ m n : Memory, Memory.wf m = true → Memory.wf n = true →
    (∀ i, Memory.read m i = Memory.read n i) → m = n

/-- R6, R15, R29: no step changes the configuration, and STATUS bit 7 is the strap before and after. -/
def Obligations.ConfigurationNeverChanges : Prop :=
  ∀ s t : State, step s = .next t →
    t.cfg = s.cfg ∧ (statusWord s).getLsbD 7 = s.cfg.hostLe ∧ (statusWord t).getLsbD 7 = s.cfg.hostLe

/-! ## Bus reads -/

/-- R85: a read of a plain register returns its current value and changes nothing else, in every state; a read of STATUS
returns the eight fields in bits 0 to 7 and 0 above. -/
def Obligations.PlainReads : Prop :=
  ∀ s : State,
    exec .rdId s = .next { s with readData := some 0x52534701#32 } ∧
    exec .rdStatus s = .next { s with readData := some (statusWord s) } ∧
    ((statusWord s).getLsbD 0 = s.status.busy ∧ (statusWord s).getLsbD 1 = s.status.configured ∧
      (statusWord s).getLsbD 2 = s.status.err ∧ (statusWord s).getLsbD 3 = s.status.short ∧
      (statusWord s).getLsbD 4 = s.status.wrap ∧ (statusWord s).getLsbD 5 = s.status.sat ∧
      (statusWord s).getLsbD 6 = s.status.swapped ∧ (statusWord s).getLsbD 7 = s.cfg.hostLe ∧
      ∀ k, 8 ≤ k → (statusWord s).getLsbD k = false) ∧
    exec .rdErrcode s = .next { s with readData := some ((errCodeBits s.errcode).setWidth 32) } ∧
    exec .rdCap s = .next { s with readData := some s.cap } ∧
    exec .rdFlen s = .next { s with readData := some s.flen } ∧
    exec .rdCh s = .next { s with readData := some s.ch } ∧
    exec .rdCursor s = .next { s with readData := some s.cursor } ∧
    exec .rdDamp s = .next { s with readData := some s.damp } ∧
    exec .rdDredIn s = .next { s with readData := some s.dredIn } ∧
    exec .rdDredOut s = .next { s with readData := some s.dredOut } ∧
    exec .rdRingAddr s = .next { s with readData := some s.ringAddr } ∧
    exec .rdLastStart s = .next { s with readData := some s.lastStart } ∧
    exec .rdLastTail s = .next { s with readData := some s.lastTail } ∧
    exec .rdLastHead s = .next { s with readData := some s.lastHead } ∧
    exec .rdLastRes s = .next { s with readData := some s.lastRes }

/-- R97: a read of CMD returns 0 and has no side effect. -/
def Obligations.CommandRegisterReadsZero : Prop :=
  ∀ s : State, exec .rdCmd s = .next { s with readData := some 0x00000000#32 }

/-- R86: a read of RING_DATA, busy or not: RING_RANGE and 0 at or beyond P_CAP_MAX, UninitRead on ⊥, otherwise the
word zero-extended and RING_ADDR one further. -/
def Obligations.RingPortRead : Prop :=
  ∀ s : State,
    (s.cfg.capMax ≤ s.ringAddr.toNat →
      exec .rdRingData s = .next { signalError .ringRange s with readData := some 0x00000000#32 }) ∧
    (s.ringAddr.toNat < s.cfg.capMax → Memory.read s.ring s.ringAddr.toNat = none →
      exec .rdRingData s = .fault .uninitRead) ∧
    (∀ w : Sample, s.ringAddr.toNat < s.cfg.capMax → Memory.read s.ring s.ringAddr.toNat = some w →
      exec .rdRingData s =
        .next { s with readData := some (w.setWidth 32), ringAddr := s.ringAddr + 1#32 })

/-! ## Bus writes -/

/-- SignalError and `raise` of R131: signalling records the code and sets ERR when ERR = 0 and changes nothing when
ERR = 1, and `raise` answers a next state with that done and nothing more. What an operation wrote before it raised is
said with the operation: a failing CONFIGURE has cleared CONFIGURED (R100, `Obligations.ConfigureChecksAndResult`). -/
def Obligations.ErrorSignalling : Prop :=
  ∀ (e : ErrCode) (s : State),
    raise e s = .next (signalError e s) ∧
    (s.status.err = false → signalError e s = { s with errcode := e, status := { s.status with err := true } }) ∧
    (s.status.err = true → signalError e s = s)

/-- R132: the codes as ERRCODE shows them. -/
def Obligations.ErrorCodeTable : Prop :=
  [ErrCode.noError, .cfgZero, .cfgCapRange, .cfgCapNotMultCh, .cfgFrameGtCap, .notConfigured, .busy, .badCmd,
    .dampIllegal, .ringRange, .sinkFailure, .sinkProtocol].map errCodeBits =
  [0x00#8, 0x01#8, 0x02#8, 0x03#8, 0x04#8, 0x05#8, 0x06#8, 0x07#8, 0x08#8, 0x09#8, 0x0A#8, 0x0B#8]

/-- R87: a write to STATUS, busy or not, clears ERR and ERRCODE where bit 2 is 1 and SAT where bit 5 is 1, and nothing
else. -/
def Obligations.StatusWrite : Prop :=
  ∀ (v : Word) (s : State),
    exec (.wrStatus v) s = .next { s with
      errcode := if v.getLsbD 2 then .noError else s.errcode
      status := { s.status with
        err := s.status.err && !v.getLsbD 2
        sat := s.status.sat && !v.getLsbD 5 } }

/-- R89, R90, R91: a write to CAP, FLEN or CH stores any word and clears CONFIGURED. -/
def Obligations.GeometryWrites : Prop :=
  ∀ (v : Word) (s : State), Idle s →
    exec (.wrCap v) s = .next { s with cap := v, status := { s.status with configured := false } } ∧
    exec (.wrFlen v) s = .next { s with flen := v, status := { s.status with configured := false } } ∧
    exec (.wrCh v) s = .next { s with ch := v, status := { s.status with configured := false } }

/-- R92: a DAMP write with DEN ≠ 0 and NUM ≤ DEN is stored; any other is dropped with DAMP_ILLEGAL. -/
def Obligations.DampWrite : Prop :=
  ∀ (v : Word) (s : State), Idle s →
    (v.toNat / 2 ^ 16 ≠ 0 → v.toNat % 2 ^ 16 ≤ v.toNat / 2 ^ 16 →
      exec (.wrDamp v) s = .next { s with damp := v }) ∧
    ((v.toNat / 2 ^ 16 = 0 ∨ v.toNat / 2 ^ 16 < v.toNat % 2 ^ 16) →
      exec (.wrDamp v) s = .next (signalError .dampIllegal s))

/-- R93, R94: DRED_IN and RING_ADDR take every word. -/
def Obligations.ReducerInputAndRingAddressWrites : Prop :=
  ∀ (v : Word) (s : State), Idle s →
    exec (.wrDredIn v) s = .next { s with dredIn := v } ∧
    exec (.wrRingAddr v) s = .next { s with ringAddr := v }

/-- R95: a write to RING_DATA stores bits 15:0 at the word RING_ADDR names, leaves every other word and steps RING_ADDR;
at or beyond P_CAP_MAX it is RING_RANGE and nothing is written. -/
def Obligations.RingPortWrite : Prop :=
  ∀ (v : Word) (s : State), Idle s →
    (s.cfg.capMax ≤ s.ringAddr.toNat → exec (.wrRingData v) s = .next (signalError .ringRange s)) ∧
    (s.ringAddr.toNat < s.cfg.capMax →
      ∃ t, exec (.wrRingData v) s = .next t ∧
        t = { s with ring := t.ring, ringAddr := s.ringAddr + 1#32 } ∧
        Memory.read t.ring s.ringAddr.toNat = some (v.extractLsb' 0 16) ∧
        ∀ i, i ≠ s.ringAddr.toNat → Memory.read t.ring i = Memory.read s.ring i)

/-- R96: a write to a read-only register changes nothing and raises nothing, busy or not. -/
def Obligations.ReadOnlyWritesIgnored : Prop :=
  ∀ (v : Word) (s : State),
    exec (.wrId v) s = .next s ∧ exec (.wrErrcode v) s = .next s ∧ exec (.wrCursor v) s = .next s ∧
    exec (.wrDredOut v) s = .next s ∧ exec (.wrLastStart v) s = .next s ∧ exec (.wrLastTail v) s = .next s ∧
    exec (.wrLastHead v) s = .next s ∧ exec (.wrLastRes v) s = .next s

/-- R84: while BUSY = 1 every write but those to STATUS and to read-only registers is dropped with error BUSY, commands
and SOFT_RESET included. -/
def Obligations.BusyDropsWrites : Prop :=
  ∀ (v : Word) (idx : BitVec 24) (s : State), s.status.busy = true →
    ∀ i ∈ [Instr.wrCmd v, .wrCap v, .wrFlen v, .wrCh v, .wrDamp v, .wrDredIn v, .wrRingAddr v, .wrRingData v,
        .nop, .configure, .nextFrame, .normalize, .reduce, .reduceSt idx, .softReset, .reserved v],
      exec i s = .next (signalError .busy s)

/-- R88, R98: a word written to CMD with BUSY = 0 runs the command it decodes to, with that command's own outcome; a word
that decodes to none (R78) raises BAD_CMD and does nothing else; only NEXT_FRAME can stop (R119). -/
def Obligations.CommandWriteRunsCommand : Prop :=
  ∀ (v : Word) (s : State), Idle s →
    (decodeCmd v = .bad → exec (.wrCmd v) s = .next (signalError .badCmd s)) ∧
    (decodeCmd v = .nop → exec (.wrCmd v) s = .next s) ∧
    (decodeCmd v = .configure → exec (.wrCmd v) s = exec .configure s) ∧
    (decodeCmd v = .nextFrame → exec (.wrCmd v) s = exec .nextFrame s) ∧
    (decodeCmd v = .normalize → exec (.wrCmd v) s = exec .normalize s) ∧
    (decodeCmd v = .reduce → exec (.wrCmd v) s = exec .reduce s) ∧
    (∀ idx, decodeCmd v = .reduceSt idx → exec (.wrCmd v) s = exec (.reduceSt idx) s) ∧
    (decodeCmd v = .softReset → exec (.wrCmd v) s = exec .softReset s) ∧
    (v ≠ 0x20000000#32 → ∃ t, exec (.wrCmd v) s = .next t)

/-! ## Control commands -/

/-- R99: NOP, the command word 0, has no effect. -/
def Obligations.NopHasNoEffect : Prop :=
  decodeCmd 0#32 = .nop ∧ ∀ s : State,
    (Idle s → exec .nop s = .next s) ∧
    (s.status.busy = true → exec .nop s = .next (signalError .busy s))

/-- R77: a CMD write of opcode 0x6 to 0xE, with whatever else in the word, is RESERVED_6_E and raises BAD_CMD (code
0x07) with no other effect. -/
def Obligations.ReservedOpcodesRaiseBadCmd : Prop :=
  ∀ (w : Word) (s : State) (rest : List Input), Idle s → 0x6 ≤ w.toNat / 2 ^ 28 → w.toNat / 2 ^ 28 ≤ 0xE →
    decode (writeAccess 0x0C#8 w) = .ok (.reserved w) ∧
    exec (.reserved w) s = .next (signalError .badCmd s) ∧
    errCodeBits .badCmd = 0x07#8 ∧
    (s.inputs = .host (writeAccess 0x0C#8 w) :: rest →
      step s = .next (signalError .badCmd { s with inputs := rest }))

/-- R100: CONFIGURE's checks in their order, each with its code and CONFIGURED cleared; when all pass, a new playback pass
at cursor 0. Products are exact. -/
def Obligations.ConfigureChecksAndResult : Prop :=
  ∀ s : State, Idle s →
    ((s.cap = 0#32 ∨ s.flen = 0#32 ∨ s.ch = 0#32) →
      exec .configure s =
        .next (signalError .cfgZero { s with status := { s.status with configured := false } })) ∧
    (s.cap ≠ 0#32 → s.flen ≠ 0#32 → s.ch ≠ 0#32 →
      (s.cfg.capMax < s.cap.toNat →
        exec .configure s =
          .next (signalError .cfgCapRange { s with status := { s.status with configured := false } })) ∧
      (s.cap.toNat ≤ s.cfg.capMax →
        (s.cap.toNat % s.ch.toNat ≠ 0 →
          exec .configure s =
            .next (signalError .cfgCapNotMultCh { s with status := { s.status with configured := false } })) ∧
        (s.cap.toNat % s.ch.toNat = 0 →
          (s.cap.toNat < s.flen.toNat * s.ch.toNat →
            exec .configure s =
              .next (signalError .cfgFrameGtCap { s with status := { s.status with configured := false } })) ∧
          (s.flen.toNat * s.ch.toNat ≤ s.cap.toNat →
            exec .configure s = .next { s with
              cursor := 0#32
              lastStart := 0#32
              lastTail := 0#32
              lastHead := 0#32
              lastRes := 0#32
              status := { s.status with short := false, wrap := false, configured := true } }))))

/-- R101: SOFT_RESET sets every register to its reset value and keeps SWAPPED and the ring. -/
def Obligations.SoftResetValues : Prop :=
  ∀ s : State, Idle s →
    exec .softReset s = .next { s with
      status := { busy := false, configured := false, err := false, short := false, wrap := false, sat := false,
                  swapped := s.status.swapped }
      errcode := .noError
      cap := 0#32
      flen := 0#32
      ch := 0#32
      cursor := 0#32
      damp := s.cfg.dampReset
      dredIn := 0#32
      dredOut := 0#32
      ringAddr := 0#32
      lastStart := 0#32
      lastTail := 0#32
      lastHead := 0#32
      lastRes := 0#32 }

/-! ## Depth reducer -/

/-- R106 with R102 to R105: REDUCE writes DRED_OUT with the biased, shifted, clamped and damped sample and sets SAT when
the clamp changed it. DEN ≠ 0 always holds (R37, `StepKeepsInv`). -/
def Obligations.ReduceResult : Prop :=
  ∀ s : State, Idle s → s.damp.toNat / 2 ^ 16 ≠ 0 →
    ∀ t c d : Int, t = (s.dredIn.toInt + 128) / 256 →
      c = max (-32768) (min t 32767) →
      d = (c * ((s.damp.toNat % 2 ^ 16 : Nat) : Int)).tdiv ((s.damp.toNat / 2 ^ 16 : Nat) : Int) →
      exec .reduce s = .next { s with
        dredOut := BitVec.ofInt 32 d
        status := { s.status with sat := s.status.sat || decide (c ≠ t) } }

/-- R107: REDUCE_ST beyond P_CAP_MAX is RING_RANGE and nothing else; otherwise REDUCE's effects, the 16-bit result stored
at word IDX, every other word and RING_ADDR unchanged. DEN ≠ 0 always holds (R37, `StepKeepsInv`). -/
def Obligations.ReduceStoreResult : Prop :=
  ∀ (idx : BitVec 24) (s : State), Idle s →
    (s.cfg.capMax ≤ idx.toNat → exec (.reduceSt idx) s = .next (signalError .ringRange s)) ∧
    (idx.toNat < s.cfg.capMax → s.damp.toNat / 2 ^ 16 ≠ 0 →
      ∀ t c d : Int, t = (s.dredIn.toInt + 128) / 256 →
        c = max (-32768) (min t 32767) →
        d = (c * ((s.damp.toNat % 2 ^ 16 : Nat) : Int)).tdiv ((s.damp.toNat / 2 ^ 16 : Nat) : Int) →
        ∃ u, exec (.reduceSt idx) s = .next u ∧
          u = { s with
            ring := u.ring
            dredOut := BitVec.ofInt 32 d
            status := { s.status with sat := s.status.sat || decide (c ≠ t) } } ∧
          Memory.read u.ring idx.toNat = some (BitVec.ofInt 16 d) ∧
          ∀ i, i ≠ idx.toNat → Memory.read u.ring i = Memory.read s.ring i)

/-- R103, R104: under a legal factor the damped value is no larger in magnitude than the clamped one and fits 16 bits; 0
gives 0; over the 24-bit range the clamp acts exactly from 8,388,480 on. -/
def Obligations.ReductionBounds : Prop :=
  ∀ damp w : Word, dampLegal damp = true →
    |reduceValue damp w| ≤ |reduceClamp (reduceShift w)| ∧
    -32768 ≤ reduceValue damp w ∧ reduceValue damp w ≤ 32767 ∧
    (w = 0#32 → reduceValue damp w = 0) ∧
    (-8388608 ≤ w.toInt → w.toInt ≤ 8388607 → (reduceSat w = true ↔ 8388480 ≤ w.toInt))

/-! ## Endianness normaliser -/

/-- R110, R111: NORMALIZE needs CONFIGURED; with P_HOST_LE = 1 every word below CAP is byte-swapped, ⊥ stays ⊥, words from
CAP on are untouched and SWAPPED is inverted; with P_HOST_LE = 0 nothing changes. -/
def Obligations.NormalizeResult : Prop :=
  ∀ s : State, Idle s →
    (s.status.configured = false → exec .normalize s = .next (signalError .notConfigured s)) ∧
    (s.status.configured = true → s.cfg.hostLe = false → exec .normalize s = .next s) ∧
    (s.status.configured = true → s.cfg.hostLe = true →
      ∃ t, exec .normalize s = .next t ∧
        t = { s with ring := t.ring, status := { s.status with swapped := !s.status.swapped } } ∧
        (∀ i, i < s.cap.toNat → Memory.read t.ring i =
          (Memory.read s.ring i).map fun w => w.extractLsb' 0 8 ++ w.extractLsb' 8 8) ∧
        ∀ i, s.cap.toNat ≤ i → Memory.read t.ring i = Memory.read s.ring i)

/-- R112: two NORMALIZE commands in a row restore the ring and SWAPPED, and everything else. -/
def Obligations.NormalizeTwiceRestores : Prop :=
  ∀ s : State, Idle s → s.status.configured = true →
    ∃ t, exec .normalize s = .next t ∧ exec .normalize t = .next s

/-- R59, R113: a plain word when P_HOST_LE = 0, and a once-swapped word when P_HOST_LE = 1, reach the sink port high byte
first; swapping twice is the identity (R109). -/
def Obligations.WireOrderIsBigEndian : Prop :=
  ∀ w : Sample,
    storageBytes false w = [w.extractLsb' 8 8, w.extractLsb' 0 8] ∧
    storageBytes true w = [w.extractLsb' 0 8, w.extractLsb' 8 8] ∧
    storageBytes true (swap16 w) = [w.extractLsb' 8 8, w.extractLsb' 0 8] ∧
    swap16 (swap16 w) = w

/-! ## Segmenter -/

/-- R116, R117: a frame that ends at or before CAP is presented in place: FRAME is RING[s, end), WRAP 0, CURSOR unmoved,
LAST_TAIL N and LAST_HEAD 0, BUSY set. -/
def Obligations.ContiguousIssue : Prop :=
  ∀ (s : State) (f : List Sample), Idle s → s.status.configured = true →
    s.cursor.toNat + s.flen.toNat * s.ch.toNat ≤ s.cap.toNat →
    f.length = s.flen.toNat * s.ch.toNat →
    (∀ j, j < f.length → f[j]? = Memory.read s.ring (s.cursor.toNat + j)) →
    exec .nextFrame s = .next { s with
      lastStart := s.cursor
      lastTail := s.flen * s.ch
      lastHead := 0#32
      frame := f
      status := { s.status with wrap := false, busy := true } }

/-- R116, R118: a frame that passes CAP is the ring's tail followed by its head: WRAP 1, CURSOR at headCount at once, and
the two counts recorded. -/
def Obligations.SpliceIssue : Prop :=
  ∀ (s : State) (f : List Sample) (tail head : Nat), Idle s → s.status.configured = true →
    s.cursor.toNat ≤ s.cap.toNat → s.cap.toNat < s.cursor.toNat + s.flen.toNat * s.ch.toNat →
    tail = s.cap.toNat - s.cursor.toNat → head = s.flen.toNat * s.ch.toNat - tail →
    f.length = tail + head →
    (∀ j, j < tail → f[j]? = Memory.read s.ring (s.cursor.toNat + j)) →
    (∀ j, j < head → f[tail + j]? = Memory.read s.ring j) →
    exec .nextFrame s = .next { s with
      cursor := BitVec.ofNat 32 head
      lastStart := s.cursor
      lastTail := BitVec.ofNat 32 tail
      lastHead := BitVec.ofNat 32 head
      frame := f
      status := { s.status with wrap := true, busy := true } }

/-- R116, R119: where NEXT_FRAME does not issue: NOT_CONFIGURED, or UninitRead when a word of the frame is ⊥ (the j-th
word is at ring index CURSOR + j, less CAP from the wrap point on). -/
def Obligations.IssueStops : Prop :=
  ∀ s : State, Idle s →
    (s.status.configured = false → exec .nextFrame s = .next (signalError .notConfigured s)) ∧
    (∀ j, s.status.configured = true → s.cursor.toNat ≤ s.cap.toNat → j < s.flen.toNat * s.ch.toNat →
      Memory.read s.ring
        (if s.cursor.toNat + j < s.cap.toNat then s.cursor.toNat + j else s.cursor.toNat + j - s.cap.toNat) = none →
      exec .nextFrame s = .fault .uninitRead)

/-- R115, R127, R128: from a state that meets the invariant, a frame that is issued has N words and its j-th is the ring's
at (CURSOR + j) mod CAP. -/
def Obligations.FrameIsRingWindow : Prop :=
  ∀ s t : State, Inv s → Idle s → s.status.configured = true → exec .nextFrame s = .next t →
    t.frame.length = frameSize s ∧
    ∀ j, j < frameSize s →
      t.frame[j]? = Memory.read s.ring ((s.cursor.toNat + j) % s.cap.toNat)

/-- R120: while BUSY = 1 the sink port presents FRAME, two bytes a word in storage order, and the requested count FLEN;
while BUSY = 0 nothing. -/
def Obligations.SinkPortPresentsFrame : Prop :=
  ∀ s : State,
    (Idle s → sinkPort s = none) ∧
    (s.status.busy = true → ∃ p, sinkPort s = some p ∧ p.words = s.frame ∧ p.requested = s.flen ∧
      p.bytes.length = 2 * s.frame.length ∧
      ∀ (j : Nat) (w : Sample), s.frame[j]? = some w →
        p.bytes[2 * j]? = some (if s.cfg.hostLe then w.extractLsb' 0 8 else w.extractLsb' 8 8) ∧
        p.bytes[2 * j + 1]? = some (if s.cfg.hostLe then w.extractLsb' 8 8 else w.extractLsb' 0 8))

/-- R122, R123: the sink takes r of FLEN groups of a contiguous frame: CURSOR goes on by r·CH samples, with no wrap in 32
bits and not beyond CAP (R127), SHORT tells whether r < FLEN, BUSY clears, FRAME empties. -/
def Obligations.ContiguousCompletion : Prop :=
  ∀ (s : State) (r : Word) (rest : List Input), Inv s → s.inputs = .sink r :: rest → s.status.busy = true →
    s.status.wrap = false → 0 ≤ r.toInt → r.toInt ≤ s.flen.toNat →
    ∃ t, step s = .next t ∧
      t = { s with
        inputs := rest
        lastRes := r
        cursor := t.cursor
        frame := []
        status := { s.status with short := decide (r.toInt < s.flen.toNat), busy := false } } ∧
      t.cursor.toNat = s.cursor.toNat + r.toNat * s.ch.toNat ∧ t.cursor.toNat ≤ s.cap.toNat

/-- R122, R124: whatever part of a spliced frame the sink takes, CURSOR stays at headCount. -/
def Obligations.SplicedCompletion : Prop :=
  ∀ (s : State) (r : Word) (rest : List Input), s.inputs = .sink r :: rest → s.status.busy = true →
    s.status.wrap = true → 0 ≤ r.toInt → r.toInt ≤ s.flen.toNat →
    step s = .next { s with
      inputs := rest
      lastRes := r
      frame := []
      status := { s.status with short := decide (r.toInt < s.flen.toNat), busy := false } }

/-- R122, R125, R126: a negative result signals SINK_FAILURE and a result above FLEN SINK_PROTOCOL; CURSOR and the ring
stay, SHORT and BUSY clear, LAST_RES holds the result. -/
def Obligations.FailedCompletion : Prop :=
  ∀ (s : State) (r : Word) (rest : List Input), s.inputs = .sink r :: rest → s.status.busy = true →
    (r.toInt < 0 →
      step s = .next { s with
        inputs := rest
        lastRes := r
        frame := []
        errcode := if s.status.err then s.errcode else .sinkFailure
        status := { s.status with short := false, busy := false, err := true } }) ∧
    ((s.flen.toNat : Int) < r.toInt →
      step s = .next { s with
        inputs := rest
        lastRes := r
        frame := []
        errcode := if s.status.err then s.errcode else .sinkProtocol
        status := { s.status with short := false, busy := false, err := true } })

/-- R128: from a state with CURSOR 0 as CONFIGURE leaves it and the ring loaded, k ≥ 1 frames accepted whole leave CURSOR
at ((k·N - 1) mod CAP) + 1. -/
def Obligations.CursorAfterFullFrames : Prop :=
  ∀ (s : State) (k : Nat), Inv s → Idle s → s.status.configured = true → s.cursor = 0#32 → RingLoaded s → 1 ≤ k →
    ∃ ws t, playFullFrames k s = some (ws, t) ∧
      t.cursor.toNat = (k * frameSize s - 1) % s.cap.toNat + 1

/-- R129: under the same premise the words of the k frames, one after the other, are the ring repeated and sliced from
offset 0, whether or not CAP is a multiple of N; the ring is unchanged. -/
def Obligations.PhaseContinuity : Prop :=
  ∀ (s : State) (k : Nat), Inv s → Idle s → s.status.configured = true → s.cursor = 0#32 → RingLoaded s →
    ∃ ws t, playFullFrames k s = some (ws, t) ∧ t.ring = s.ring ∧ ws.length = k * frameSize s ∧
      ∀ j, j < k * frameSize s → ws[j]? = Memory.read s.ring (j % s.cap.toNat)

/-! ## Rules of the whole machine -/

/-- R22, R84, R148: no host access ends BUSY; only the sink's answer or hard reset does. -/
def Obligations.OnlySinkOrResetEndsBusy : Prop :=
  ∀ s t : State, s.status.busy = true → step s = .next t → t.status.busy = false →
    (∃ r rest, s.inputs = .sink r :: rest) ∨ (∃ rest, s.inputs = .hardReset :: rest)

/-- R66: while a frame is with the sink, a host access changes none of the ring, the frame, the configuration registers,
the segmenter's registers, the reducer's registers and the flags but ERR and SAT. -/
def Obligations.HostCannotDisturbPendingFrame : Prop :=
  ∀ (s t : State) (a : BusAccess) (rest : List Input), s.status.busy = true → s.inputs = .host a :: rest →
    step s = .next t →
    t = { s with
      inputs := rest
      status := { s.status with err := t.status.err, sat := t.status.sat }
      errcode := t.errcode
      ringAddr := t.ringAddr
      readData := t.readData }

/-- R23: CONFIGURED becomes 1 only by a CONFIGURE command with BUSY = 0 whose checks all pass. -/
def Obligations.ConfiguredOnlyByConfigure : Prop :=
  ∀ s t : State, s.status.configured = false → step s = .next t → t.status.configured = true →
    ∃ rest, s.inputs = .host (writeAccess 0x0C#8 0x10000000#32) :: rest ∧ s.status.busy = false ∧
      s.cap ≠ 0#32 ∧ s.flen ≠ 0#32 ∧ s.ch ≠ 0#32 ∧ s.cap.toNat ≤ s.cfg.capMax ∧
      s.cap.toNat % s.ch.toNat = 0 ∧ s.flen.toNat * s.ch.toNat ≤ s.cap.toNat

/-- R28: SWAPPED changes only by a NORMALIZE that swaps, or is cleared by hard reset. -/
def Obligations.SwappedOnlyByNormalize : Prop :=
  ∀ s t : State, step s = .next t → t.status.swapped ≠ s.status.swapped →
    (∃ rest, s.inputs = .host (writeAccess 0x0C#8 0x30000000#32) :: rest ∧ s.status.busy = false ∧
      s.status.configured = true ∧ s.cfg.hostLe = true) ∨
    (∃ rest, s.inputs = .hardReset :: rest)

/-- R36: the writers of CURSOR: CONFIGURE and SOFT_RESET (to 0), a NEXT_FRAME that splices, the completion of a contiguous
frame, and hard reset (to 0). -/
def Obligations.CursorWriters : Prop :=
  ∀ s t : State, step s = .next t → t.cursor ≠ s.cursor →
    (∃ rest, s.inputs = .host (writeAccess 0x0C#8 0x10000000#32) :: rest ∧ t.cursor = 0#32) ∨
    (∃ rest, s.inputs = .host (writeAccess 0x0C#8 0xF0000000#32) :: rest ∧ t.cursor = 0#32) ∨
    (∃ rest, s.inputs = .host (writeAccess 0x0C#8 0x20000000#32) :: rest ∧ t.status.wrap = true ∧
      t.cursor = t.lastHead) ∨
    (∃ r rest, s.inputs = .sink r :: rest ∧ s.status.busy = true ∧ s.status.wrap = false) ∨
    (∃ rest, s.inputs = .hardReset :: rest ∧ t.cursor = 0#32)

/-- R131, R137: while ERR stays 1 the code of the first error stays. -/
def Obligations.FirstErrorKept : Prop :=
  ∀ s t : State, s.status.err = true → step s = .next t → t.status.err = true → t.errcode = s.errcode

/-- R24, R137: ERR is cleared only by a STATUS write with bit 2 set, by SOFT_RESET with BUSY = 0 or by hard reset, and
ERRCODE is cleared with it. -/
def Obligations.ErrorClearedOnlyOnRequest : Prop :=
  ∀ s t : State, s.status.err = true → step s = .next t → t.status.err = false →
    t.errcode = .noError ∧
    ((∃ v rest, s.inputs = .host (writeAccess 0x04#8 v) :: rest ∧ v.getLsbD 2 = true) ∨
      (∃ rest, s.inputs = .host (writeAccess 0x0C#8 0xF0000000#32) :: rest ∧ s.status.busy = false) ∨
      (∃ rest, s.inputs = .hardReset :: rest))

/-- R56: what each instruction does to the ring, read word by word: a RING_DATA write and a REDUCE_ST touch the one word
they address, NORMALIZE no word from CAP on, and every other instruction but a command write no word at all. -/
def Obligations.RingFrames : Prop :=
  ∀ (i : Instr) (s t : State) (a : Nat), exec i s = .next t →
    (∀ v, i = .wrRingData v → a ≠ s.ringAddr.toNat → Memory.read t.ring a = Memory.read s.ring a) ∧
    (∀ idx, i = .reduceSt idx → a ≠ idx.toNat → Memory.read t.ring a = Memory.read s.ring a) ∧
    (i = .normalize → s.cap.toNat ≤ a → Memory.read t.ring a = Memory.read s.ring a) ∧
    ((∀ v, i ≠ .wrRingData v) → (∀ idx, i ≠ .reduceSt idx) → i ≠ .normalize → (∀ v, i ≠ .wrCmd v) →
      Memory.read t.ring a = Memory.read s.ring a)

/-- R53, R54, R143: no step is refused, and the only stops are BusError on an access that is no operation and UninitRead
on a RING_DATA read or a NEXT_FRAME. -/
def Obligations.StopsAreBusErrorOrUninitRead : Prop :=
  ∀ s : State,
    (∀ r, step s ≠ .refused r) ∧
    (∀ r, step s = .fault r → ∃ a rest, s.inputs = .host a :: rest ∧
      ((r = .busError ∧ ∀ i, decode a ≠ .ok i) ∨
        (r = .uninitRead ∧ (decode a = .ok .rdRingData ∨ decode a = .ok .nextFrame) )))
end

