-- ==== Sys2Proof/Laws/Memory.lean ====
section
/-! SUPPORT. The ring: what a read gives after each operation, and that every operation keeps the canonical form. -/

namespace Sys2Proof.Machine

theorem Memory.read_write (m : Memory) (i j : Nat) (v : Sample) :
    Memory.read (Memory.write m i v) j = if i = j then some v else Memory.read m j := by
  induction m with
  | nil => simp [Memory.write, Memory.read]
  | cons e rest ih =>
    obtain ⟨a, w⟩ := e
    simp only [Memory.write]
    split_ifs with h1 h2 h3 h3 <;> simp_all [Memory.read]
    all_goals (intro h; omega)

theorem Memory.read_swapBelow (m : Memory) (c i : Nat) :
    Memory.read (Memory.swapBelow c m) i =
      if i < c then (Memory.read m i).map swap16 else Memory.read m i := by
  induction m with
  | nil => simp [Memory.swapBelow, Memory.read]
  | cons e rest ih =>
    obtain ⟨a, w⟩ := e
    simp only [Memory.swapBelow, List.map_cons] at ih ⊢
    by_cases hac : a < c <;> by_cases hai : a = i
    · subst hai
      simp [Memory.read, hac]
    · simp [Memory.read, hac, hai, ih]
    · subst hai
      simp [Memory.read, hac]
    · simp [Memory.read, hac, hai, ih]

@[simp] theorem swap16_swap16 (w : Sample) : swap16 (swap16 w) = w := by
  refine BitVec.eq_of_getLsbD_eq fun i hi => ?_
  simp only [swap16, BitVec.getLsbD_append, BitVec.getLsbD_extractLsb']
  by_cases h : i < 8
  · simp [h]
  · simp [h, show i - 8 < 8 by omega, show 8 + (i - 8) = i by omega]

theorem Memory.swapBelow_swapBelow (m : Memory) (c : Nat) :
    Memory.swapBelow c (Memory.swapBelow c m) = m := by
  induction m with
  | nil => rfl
  | cons e rest ih =>
    simp only [Memory.swapBelow, List.map_cons] at ih ⊢
    rw [ih]
    by_cases h : e.1 < c <;> simp [h]

theorem Memory.wf_cons (a : Nat) (w : Sample) (m : Memory) :
    Memory.wf ((a, w) :: m) = true ↔ (∀ e ∈ m, a < e.1) ∧ Memory.wf m = true := by
  simp [Memory.wf]

/-- Every index listed after a write is the written one or was listed before. -/
theorem Memory.mem_write {m : Memory} {i : Nat} {v : Sample} {e : Nat × Sample}
    (h : e ∈ Memory.write m i v) : e = (i, v) ∨ e ∈ m := by
  induction m with
  | nil => simpa [Memory.write] using h
  | cons x rest ih =>
    obtain ⟨a, w⟩ := x
    simp only [Memory.write] at h
    split_ifs at h <;> simp only [List.mem_cons] at h ⊢
    · tauto
    · tauto
    · rcases h with h | h
      · tauto
      · rcases ih h with h | h <;> tauto

theorem Memory.wf_write {m : Memory} (i : Nat) (v : Sample) (h : Memory.wf m = true) :
    Memory.wf (Memory.write m i v) = true := by
  induction m with
  | nil => simp [Memory.write, Memory.wf]
  | cons x rest ih =>
    obtain ⟨a, w⟩ := x
    obtain ⟨hlt, hwf⟩ := (Memory.wf_cons a w rest).1 h
    simp only [Memory.write]
    split_ifs with h1 h2
    · refine (Memory.wf_cons i v _).2 ⟨?_, h⟩
      intro e he
      rcases List.mem_cons.1 he with he | he
      · simp [he, h1]
      · exact h1.trans (hlt e he)
    · subst h2
      exact (Memory.wf_cons i v rest).2 ⟨hlt, hwf⟩
    · refine (Memory.wf_cons a w _).2 ⟨?_, ih hwf⟩
      intro e he
      rcases Memory.mem_write he with he | he
      · simp only [he]
        omega
      · exact hlt e he

theorem Memory.mem_swapBelow {m : Memory} {c : Nat} {e : Nat × Sample}
    (h : e ∈ Memory.swapBelow c m) : ∃ w, (e.1, w) ∈ m := by
  obtain ⟨x, hx, rfl⟩ := List.mem_map.1 h
  refine ⟨x.2, ?_⟩
  by_cases hc : x.1 < c <;> simpa [hc] using hx

theorem Memory.wf_swapBelow {m : Memory} (c : Nat) (h : Memory.wf m = true) :
    Memory.wf (Memory.swapBelow c m) = true := by
  induction m with
  | nil => rfl
  | cons x rest ih =>
    obtain ⟨a, w⟩ := x
    obtain ⟨hlt, hwf⟩ := (Memory.wf_cons a w rest).1 h
    have key : ∀ u, Memory.wf ((a, u) :: Memory.swapBelow c rest) = true := by
      intro u
      refine (Memory.wf_cons a u _).2 ⟨?_, ih hwf⟩
      intro e he
      obtain ⟨w', hw'⟩ := Memory.mem_swapBelow he
      exact hlt (e.1, w') hw'
    by_cases hc : a < c
    · simpa [Memory.swapBelow, hc] using key (swap16 w)
    · simpa [Memory.swapBelow, hc] using key w

theorem Memory.wf_reset (c : Config) : Memory.wf (State.resetWith c).ring = true := rfl

theorem Memory.bounded_write {m : Memory} {i n : Nat} (v : Sample) (hi : i < n)
    (h : m.all (fun e => decide (e.1 < n)) = true) :
    (Memory.write m i v).all (fun e => decide (e.1 < n)) = true := by
  simp only [List.all_eq_true, decide_eq_true_eq] at h ⊢
  intro e he
  rcases Memory.mem_write he with he | he
  · simpa [he] using hi
  · exact h e he

theorem Memory.bounded_swapBelow {m : Memory} {n : Nat} (c : Nat)
    (h : m.all (fun e => decide (e.1 < n)) = true) :
    (Memory.swapBelow c m).all (fun e => decide (e.1 < n)) = true := by
  simp only [List.all_eq_true, decide_eq_true_eq] at h ⊢
  intro e he
  obtain ⟨w, hw⟩ := Memory.mem_swapBelow he
  exact h (e.1, w) hw

/-- What a gathered list is: as long as asked, each word the ring's. -/
theorem Memory.gather_eq_some_iff (m : Memory) (start n : Nat) (f : List Sample) :
    Memory.gather m start n = some f ↔
      f.length = n ∧ ∀ j, j < n → f[j]? = Memory.read m (start + j) := by
  induction n generalizing start f with
  | zero => cases f <;> simp [Memory.gather]
  | succ k ih =>
    simp only [Memory.gather]
    constructor
    · intro h
      split at h
      · simp at h
      · rename_i w hw
        obtain ⟨g, hg, rfl⟩ := Option.map_eq_some_iff.1 h
        obtain ⟨hl, hr⟩ := (ih _ _).1 hg
        refine ⟨by simp [hl], ?_⟩
        intro j hj
        cases j with
        | zero => simp [hw]
        | succ j =>
          rw [List.getElem?_cons_succ, hr j (by omega)]
          congr 1
          omega
    · rintro ⟨hl, hr⟩
      cases f with
      | nil => simp at hl
      | cons w g =>
        have h0 := hr 0 (by omega)
        simp only [List.getElem?_cons_zero, Nat.add_zero] at h0
        rw [← h0]
        have hg : Memory.gather m (start + 1) k = some g := by
          refine (ih _ _).2 ⟨by simpa using hl, fun j hj => ?_⟩
          have := hr (j + 1) (by omega)
          rw [List.getElem?_cons_succ] at this
          rw [this]
          congr 1
          omega
        simp [hg]

/-- A gather stops exactly at a ⊥ word. -/
theorem Memory.gather_eq_none_iff (m : Memory) (start n : Nat) :
    Memory.gather m start n = none ↔ ∃ j, j < n ∧ Memory.read m (start + j) = none := by
  induction n generalizing start with
  | zero => simp [Memory.gather]
  | succ k ih =>
    simp only [Memory.gather]
    constructor
    · intro h
      split at h
      · rename_i hn
        exact ⟨0, by omega, by simpa using hn⟩
      · obtain ⟨j, hj, hr⟩ := (ih _).1 (Option.map_eq_none_iff.1 h)
        exact ⟨j + 1, by omega, by rw [← hr]; congr 1; omega⟩
    · rintro ⟨j, hj, hr⟩
      split
      · rfl
      · rename_i w hw
        refine Option.map_eq_none_iff.2 ((ih _).2 ?_)
        cases j with
        | zero => simp [hw] at hr
        | succ j => exact ⟨j, by omega, by rw [← hr]; congr 1; omega⟩

end Sys2Proof.Machine
end

