-- ==== Sys2Proof/Laws/State.lean ====
section
/-! SUPPORT. What every field of State is after every shared update: one lemma per field and update. -/

namespace Sys2Proof.Machine

/-! CONFIGURED (R23) -/

@[simp] theorem setConfigured_cfg (b : Bool) (s : State) : (setConfigured b s).cfg = s.cfg := rfl
@[simp] theorem setConfigured_status (b : Bool) (s : State) : (setConfigured b s).status = { s.status with configured := b } := rfl
@[simp] theorem setConfigured_errcode (b : Bool) (s : State) : (setConfigured b s).errcode = s.errcode := rfl
@[simp] theorem setConfigured_cap (b : Bool) (s : State) : (setConfigured b s).cap = s.cap := rfl
@[simp] theorem setConfigured_flen (b : Bool) (s : State) : (setConfigured b s).flen = s.flen := rfl
@[simp] theorem setConfigured_ch (b : Bool) (s : State) : (setConfigured b s).ch = s.ch := rfl
@[simp] theorem setConfigured_cursor (b : Bool) (s : State) : (setConfigured b s).cursor = s.cursor := rfl
@[simp] theorem setConfigured_damp (b : Bool) (s : State) : (setConfigured b s).damp = s.damp := rfl
@[simp] theorem setConfigured_dredIn (b : Bool) (s : State) : (setConfigured b s).dredIn = s.dredIn := rfl
@[simp] theorem setConfigured_dredOut (b : Bool) (s : State) : (setConfigured b s).dredOut = s.dredOut := rfl
@[simp] theorem setConfigured_ringAddr (b : Bool) (s : State) : (setConfigured b s).ringAddr = s.ringAddr := rfl
@[simp] theorem setConfigured_lastStart (b : Bool) (s : State) : (setConfigured b s).lastStart = s.lastStart := rfl
@[simp] theorem setConfigured_lastTail (b : Bool) (s : State) : (setConfigured b s).lastTail = s.lastTail := rfl
@[simp] theorem setConfigured_lastHead (b : Bool) (s : State) : (setConfigured b s).lastHead = s.lastHead := rfl
@[simp] theorem setConfigured_lastRes (b : Bool) (s : State) : (setConfigured b s).lastRes = s.lastRes := rfl
@[simp] theorem setConfigured_ring (b : Bool) (s : State) : (setConfigured b s).ring = s.ring := rfl
@[simp] theorem setConfigured_frame (b : Bool) (s : State) : (setConfigured b s).frame = s.frame := rfl
@[simp] theorem setConfigured_readData (b : Bool) (s : State) : (setConfigured b s).readData = s.readData := rfl
@[simp] theorem setConfigured_inputs (b : Bool) (s : State) : (setConfigured b s).inputs = s.inputs := rfl

/-! SHORT (R25) -/

@[simp] theorem setShort_cfg (b : Bool) (s : State) : (setShort b s).cfg = s.cfg := rfl
@[simp] theorem setShort_status (b : Bool) (s : State) : (setShort b s).status = { s.status with short := b } := rfl
@[simp] theorem setShort_errcode (b : Bool) (s : State) : (setShort b s).errcode = s.errcode := rfl
@[simp] theorem setShort_cap (b : Bool) (s : State) : (setShort b s).cap = s.cap := rfl
@[simp] theorem setShort_flen (b : Bool) (s : State) : (setShort b s).flen = s.flen := rfl
@[simp] theorem setShort_ch (b : Bool) (s : State) : (setShort b s).ch = s.ch := rfl
@[simp] theorem setShort_cursor (b : Bool) (s : State) : (setShort b s).cursor = s.cursor := rfl
@[simp] theorem setShort_damp (b : Bool) (s : State) : (setShort b s).damp = s.damp := rfl
@[simp] theorem setShort_dredIn (b : Bool) (s : State) : (setShort b s).dredIn = s.dredIn := rfl
@[simp] theorem setShort_dredOut (b : Bool) (s : State) : (setShort b s).dredOut = s.dredOut := rfl
@[simp] theorem setShort_ringAddr (b : Bool) (s : State) : (setShort b s).ringAddr = s.ringAddr := rfl
@[simp] theorem setShort_lastStart (b : Bool) (s : State) : (setShort b s).lastStart = s.lastStart := rfl
@[simp] theorem setShort_lastTail (b : Bool) (s : State) : (setShort b s).lastTail = s.lastTail := rfl
@[simp] theorem setShort_lastHead (b : Bool) (s : State) : (setShort b s).lastHead = s.lastHead := rfl
@[simp] theorem setShort_lastRes (b : Bool) (s : State) : (setShort b s).lastRes = s.lastRes := rfl
@[simp] theorem setShort_ring (b : Bool) (s : State) : (setShort b s).ring = s.ring := rfl
@[simp] theorem setShort_frame (b : Bool) (s : State) : (setShort b s).frame = s.frame := rfl
@[simp] theorem setShort_readData (b : Bool) (s : State) : (setShort b s).readData = s.readData := rfl
@[simp] theorem setShort_inputs (b : Bool) (s : State) : (setShort b s).inputs = s.inputs := rfl

/-! BUSY (R22) -/

@[simp] theorem setBusy_cfg (b : Bool) (s : State) : (setBusy b s).cfg = s.cfg := rfl
@[simp] theorem setBusy_status (b : Bool) (s : State) : (setBusy b s).status = { s.status with busy := b } := rfl
@[simp] theorem setBusy_errcode (b : Bool) (s : State) : (setBusy b s).errcode = s.errcode := rfl
@[simp] theorem setBusy_cap (b : Bool) (s : State) : (setBusy b s).cap = s.cap := rfl
@[simp] theorem setBusy_flen (b : Bool) (s : State) : (setBusy b s).flen = s.flen := rfl
@[simp] theorem setBusy_ch (b : Bool) (s : State) : (setBusy b s).ch = s.ch := rfl
@[simp] theorem setBusy_cursor (b : Bool) (s : State) : (setBusy b s).cursor = s.cursor := rfl
@[simp] theorem setBusy_damp (b : Bool) (s : State) : (setBusy b s).damp = s.damp := rfl
@[simp] theorem setBusy_dredIn (b : Bool) (s : State) : (setBusy b s).dredIn = s.dredIn := rfl
@[simp] theorem setBusy_dredOut (b : Bool) (s : State) : (setBusy b s).dredOut = s.dredOut := rfl
@[simp] theorem setBusy_ringAddr (b : Bool) (s : State) : (setBusy b s).ringAddr = s.ringAddr := rfl
@[simp] theorem setBusy_lastStart (b : Bool) (s : State) : (setBusy b s).lastStart = s.lastStart := rfl
@[simp] theorem setBusy_lastTail (b : Bool) (s : State) : (setBusy b s).lastTail = s.lastTail := rfl
@[simp] theorem setBusy_lastHead (b : Bool) (s : State) : (setBusy b s).lastHead = s.lastHead := rfl
@[simp] theorem setBusy_lastRes (b : Bool) (s : State) : (setBusy b s).lastRes = s.lastRes := rfl
@[simp] theorem setBusy_ring (b : Bool) (s : State) : (setBusy b s).ring = s.ring := rfl
@[simp] theorem setBusy_frame (b : Bool) (s : State) : (setBusy b s).frame = s.frame := rfl
@[simp] theorem setBusy_readData (b : Bool) (s : State) : (setBusy b s).readData = s.readData := rfl
@[simp] theorem setBusy_inputs (b : Bool) (s : State) : (setBusy b s).inputs = s.inputs := rfl

/-! SAT set (R27) -/

@[simp] theorem stickSat_cfg (b : Bool) (s : State) : (stickSat b s).cfg = s.cfg := rfl
@[simp] theorem stickSat_status (b : Bool) (s : State) : (stickSat b s).status = { s.status with sat := s.status.sat || b } := rfl
@[simp] theorem stickSat_errcode (b : Bool) (s : State) : (stickSat b s).errcode = s.errcode := rfl
@[simp] theorem stickSat_cap (b : Bool) (s : State) : (stickSat b s).cap = s.cap := rfl
@[simp] theorem stickSat_flen (b : Bool) (s : State) : (stickSat b s).flen = s.flen := rfl
@[simp] theorem stickSat_ch (b : Bool) (s : State) : (stickSat b s).ch = s.ch := rfl
@[simp] theorem stickSat_cursor (b : Bool) (s : State) : (stickSat b s).cursor = s.cursor := rfl
@[simp] theorem stickSat_damp (b : Bool) (s : State) : (stickSat b s).damp = s.damp := rfl
@[simp] theorem stickSat_dredIn (b : Bool) (s : State) : (stickSat b s).dredIn = s.dredIn := rfl
@[simp] theorem stickSat_dredOut (b : Bool) (s : State) : (stickSat b s).dredOut = s.dredOut := rfl
@[simp] theorem stickSat_ringAddr (b : Bool) (s : State) : (stickSat b s).ringAddr = s.ringAddr := rfl
@[simp] theorem stickSat_lastStart (b : Bool) (s : State) : (stickSat b s).lastStart = s.lastStart := rfl
@[simp] theorem stickSat_lastTail (b : Bool) (s : State) : (stickSat b s).lastTail = s.lastTail := rfl
@[simp] theorem stickSat_lastHead (b : Bool) (s : State) : (stickSat b s).lastHead = s.lastHead := rfl
@[simp] theorem stickSat_lastRes (b : Bool) (s : State) : (stickSat b s).lastRes = s.lastRes := rfl
@[simp] theorem stickSat_ring (b : Bool) (s : State) : (stickSat b s).ring = s.ring := rfl
@[simp] theorem stickSat_frame (b : Bool) (s : State) : (stickSat b s).frame = s.frame := rfl
@[simp] theorem stickSat_readData (b : Bool) (s : State) : (stickSat b s).readData = s.readData := rfl
@[simp] theorem stickSat_inputs (b : Bool) (s : State) : (stickSat b s).inputs = s.inputs := rfl

/-! SAT cleared (R27) -/

@[simp] theorem clearSat_cfg (s : State) : (clearSat s).cfg = s.cfg := rfl
@[simp] theorem clearSat_status (s : State) : (clearSat s).status = { s.status with sat := false } := rfl
@[simp] theorem clearSat_errcode (s : State) : (clearSat s).errcode = s.errcode := rfl
@[simp] theorem clearSat_cap (s : State) : (clearSat s).cap = s.cap := rfl
@[simp] theorem clearSat_flen (s : State) : (clearSat s).flen = s.flen := rfl
@[simp] theorem clearSat_ch (s : State) : (clearSat s).ch = s.ch := rfl
@[simp] theorem clearSat_cursor (s : State) : (clearSat s).cursor = s.cursor := rfl
@[simp] theorem clearSat_damp (s : State) : (clearSat s).damp = s.damp := rfl
@[simp] theorem clearSat_dredIn (s : State) : (clearSat s).dredIn = s.dredIn := rfl
@[simp] theorem clearSat_dredOut (s : State) : (clearSat s).dredOut = s.dredOut := rfl
@[simp] theorem clearSat_ringAddr (s : State) : (clearSat s).ringAddr = s.ringAddr := rfl
@[simp] theorem clearSat_lastStart (s : State) : (clearSat s).lastStart = s.lastStart := rfl
@[simp] theorem clearSat_lastTail (s : State) : (clearSat s).lastTail = s.lastTail := rfl
@[simp] theorem clearSat_lastHead (s : State) : (clearSat s).lastHead = s.lastHead := rfl
@[simp] theorem clearSat_lastRes (s : State) : (clearSat s).lastRes = s.lastRes := rfl
@[simp] theorem clearSat_ring (s : State) : (clearSat s).ring = s.ring := rfl
@[simp] theorem clearSat_frame (s : State) : (clearSat s).frame = s.frame := rfl
@[simp] theorem clearSat_readData (s : State) : (clearSat s).readData = s.readData := rfl
@[simp] theorem clearSat_inputs (s : State) : (clearSat s).inputs = s.inputs := rfl

/-! SWAPPED (R28) -/

@[simp] theorem flipSwapped_cfg (s : State) : (flipSwapped s).cfg = s.cfg := rfl
@[simp] theorem flipSwapped_status (s : State) : (flipSwapped s).status = { s.status with swapped := !s.status.swapped } := rfl
@[simp] theorem flipSwapped_errcode (s : State) : (flipSwapped s).errcode = s.errcode := rfl
@[simp] theorem flipSwapped_cap (s : State) : (flipSwapped s).cap = s.cap := rfl
@[simp] theorem flipSwapped_flen (s : State) : (flipSwapped s).flen = s.flen := rfl
@[simp] theorem flipSwapped_ch (s : State) : (flipSwapped s).ch = s.ch := rfl
@[simp] theorem flipSwapped_cursor (s : State) : (flipSwapped s).cursor = s.cursor := rfl
@[simp] theorem flipSwapped_damp (s : State) : (flipSwapped s).damp = s.damp := rfl
@[simp] theorem flipSwapped_dredIn (s : State) : (flipSwapped s).dredIn = s.dredIn := rfl
@[simp] theorem flipSwapped_dredOut (s : State) : (flipSwapped s).dredOut = s.dredOut := rfl
@[simp] theorem flipSwapped_ringAddr (s : State) : (flipSwapped s).ringAddr = s.ringAddr := rfl
@[simp] theorem flipSwapped_lastStart (s : State) : (flipSwapped s).lastStart = s.lastStart := rfl
@[simp] theorem flipSwapped_lastTail (s : State) : (flipSwapped s).lastTail = s.lastTail := rfl
@[simp] theorem flipSwapped_lastHead (s : State) : (flipSwapped s).lastHead = s.lastHead := rfl
@[simp] theorem flipSwapped_lastRes (s : State) : (flipSwapped s).lastRes = s.lastRes := rfl
@[simp] theorem flipSwapped_ring (s : State) : (flipSwapped s).ring = s.ring := rfl
@[simp] theorem flipSwapped_frame (s : State) : (flipSwapped s).frame = s.frame := rfl
@[simp] theorem flipSwapped_readData (s : State) : (flipSwapped s).readData = s.readData := rfl
@[simp] theorem flipSwapped_inputs (s : State) : (flipSwapped s).inputs = s.inputs := rfl

/-! error signalling (R131) -/

@[simp] theorem signalError_cfg (e : ErrCode) (s : State) : (signalError e s).cfg = s.cfg := rfl
@[simp] theorem signalError_status (e : ErrCode) (s : State) : (signalError e s).status = { s.status with err := true } := rfl
@[simp] theorem signalError_errcode (e : ErrCode) (s : State) : (signalError e s).errcode = if s.status.err then s.errcode else e := rfl
@[simp] theorem signalError_cap (e : ErrCode) (s : State) : (signalError e s).cap = s.cap := rfl
@[simp] theorem signalError_flen (e : ErrCode) (s : State) : (signalError e s).flen = s.flen := rfl
@[simp] theorem signalError_ch (e : ErrCode) (s : State) : (signalError e s).ch = s.ch := rfl
@[simp] theorem signalError_cursor (e : ErrCode) (s : State) : (signalError e s).cursor = s.cursor := rfl
@[simp] theorem signalError_damp (e : ErrCode) (s : State) : (signalError e s).damp = s.damp := rfl
@[simp] theorem signalError_dredIn (e : ErrCode) (s : State) : (signalError e s).dredIn = s.dredIn := rfl
@[simp] theorem signalError_dredOut (e : ErrCode) (s : State) : (signalError e s).dredOut = s.dredOut := rfl
@[simp] theorem signalError_ringAddr (e : ErrCode) (s : State) : (signalError e s).ringAddr = s.ringAddr := rfl
@[simp] theorem signalError_lastStart (e : ErrCode) (s : State) : (signalError e s).lastStart = s.lastStart := rfl
@[simp] theorem signalError_lastTail (e : ErrCode) (s : State) : (signalError e s).lastTail = s.lastTail := rfl
@[simp] theorem signalError_lastHead (e : ErrCode) (s : State) : (signalError e s).lastHead = s.lastHead := rfl
@[simp] theorem signalError_lastRes (e : ErrCode) (s : State) : (signalError e s).lastRes = s.lastRes := rfl
@[simp] theorem signalError_ring (e : ErrCode) (s : State) : (signalError e s).ring = s.ring := rfl
@[simp] theorem signalError_frame (e : ErrCode) (s : State) : (signalError e s).frame = s.frame := rfl
@[simp] theorem signalError_readData (e : ErrCode) (s : State) : (signalError e s).readData = s.readData := rfl
@[simp] theorem signalError_inputs (e : ErrCode) (s : State) : (signalError e s).inputs = s.inputs := rfl

/-! the error's return (R87, R137) -/

@[simp] theorem clearError_cfg (s : State) : (clearError s).cfg = s.cfg := rfl
@[simp] theorem clearError_status (s : State) : (clearError s).status = { s.status with err := false } := rfl
@[simp] theorem clearError_errcode (s : State) : (clearError s).errcode = .noError := rfl
@[simp] theorem clearError_cap (s : State) : (clearError s).cap = s.cap := rfl
@[simp] theorem clearError_flen (s : State) : (clearError s).flen = s.flen := rfl
@[simp] theorem clearError_ch (s : State) : (clearError s).ch = s.ch := rfl
@[simp] theorem clearError_cursor (s : State) : (clearError s).cursor = s.cursor := rfl
@[simp] theorem clearError_damp (s : State) : (clearError s).damp = s.damp := rfl
@[simp] theorem clearError_dredIn (s : State) : (clearError s).dredIn = s.dredIn := rfl
@[simp] theorem clearError_dredOut (s : State) : (clearError s).dredOut = s.dredOut := rfl
@[simp] theorem clearError_ringAddr (s : State) : (clearError s).ringAddr = s.ringAddr := rfl
@[simp] theorem clearError_lastStart (s : State) : (clearError s).lastStart = s.lastStart := rfl
@[simp] theorem clearError_lastTail (s : State) : (clearError s).lastTail = s.lastTail := rfl
@[simp] theorem clearError_lastHead (s : State) : (clearError s).lastHead = s.lastHead := rfl
@[simp] theorem clearError_lastRes (s : State) : (clearError s).lastRes = s.lastRes := rfl
@[simp] theorem clearError_ring (s : State) : (clearError s).ring = s.ring := rfl
@[simp] theorem clearError_frame (s : State) : (clearError s).frame = s.frame := rfl
@[simp] theorem clearError_readData (s : State) : (clearError s).readData = s.readData := rfl
@[simp] theorem clearError_inputs (s : State) : (clearError s).inputs = s.inputs := rfl

/-! a read's answer (R83) -/

@[simp] theorem respond_cfg (v : Word) (s : State) : (respond v s).cfg = s.cfg := rfl
@[simp] theorem respond_status (v : Word) (s : State) : (respond v s).status = s.status := rfl
@[simp] theorem respond_errcode (v : Word) (s : State) : (respond v s).errcode = s.errcode := rfl
@[simp] theorem respond_cap (v : Word) (s : State) : (respond v s).cap = s.cap := rfl
@[simp] theorem respond_flen (v : Word) (s : State) : (respond v s).flen = s.flen := rfl
@[simp] theorem respond_ch (v : Word) (s : State) : (respond v s).ch = s.ch := rfl
@[simp] theorem respond_cursor (v : Word) (s : State) : (respond v s).cursor = s.cursor := rfl
@[simp] theorem respond_damp (v : Word) (s : State) : (respond v s).damp = s.damp := rfl
@[simp] theorem respond_dredIn (v : Word) (s : State) : (respond v s).dredIn = s.dredIn := rfl
@[simp] theorem respond_dredOut (v : Word) (s : State) : (respond v s).dredOut = s.dredOut := rfl
@[simp] theorem respond_ringAddr (v : Word) (s : State) : (respond v s).ringAddr = s.ringAddr := rfl
@[simp] theorem respond_lastStart (v : Word) (s : State) : (respond v s).lastStart = s.lastStart := rfl
@[simp] theorem respond_lastTail (v : Word) (s : State) : (respond v s).lastTail = s.lastTail := rfl
@[simp] theorem respond_lastHead (v : Word) (s : State) : (respond v s).lastHead = s.lastHead := rfl
@[simp] theorem respond_lastRes (v : Word) (s : State) : (respond v s).lastRes = s.lastRes := rfl
@[simp] theorem respond_ring (v : Word) (s : State) : (respond v s).ring = s.ring := rfl
@[simp] theorem respond_frame (v : Word) (s : State) : (respond v s).frame = s.frame := rfl
@[simp] theorem respond_readData (v : Word) (s : State) : (respond v s).readData = some v := rfl
@[simp] theorem respond_inputs (v : Word) (s : State) : (respond v s).inputs = s.inputs := rfl

/-! CONFIGURE (R100) -/

@[simp] theorem startPass_cfg (s : State) : (startPass s).cfg = s.cfg := rfl
@[simp] theorem startPass_status (s : State) : (startPass s).status = { s.status with short := false, wrap := false, configured := true } := rfl
@[simp] theorem startPass_errcode (s : State) : (startPass s).errcode = s.errcode := rfl
@[simp] theorem startPass_cap (s : State) : (startPass s).cap = s.cap := rfl
@[simp] theorem startPass_flen (s : State) : (startPass s).flen = s.flen := rfl
@[simp] theorem startPass_ch (s : State) : (startPass s).ch = s.ch := rfl
@[simp] theorem startPass_cursor (s : State) : (startPass s).cursor = 0#32 := rfl
@[simp] theorem startPass_damp (s : State) : (startPass s).damp = s.damp := rfl
@[simp] theorem startPass_dredIn (s : State) : (startPass s).dredIn = s.dredIn := rfl
@[simp] theorem startPass_dredOut (s : State) : (startPass s).dredOut = s.dredOut := rfl
@[simp] theorem startPass_ringAddr (s : State) : (startPass s).ringAddr = s.ringAddr := rfl
@[simp] theorem startPass_lastStart (s : State) : (startPass s).lastStart = 0#32 := rfl
@[simp] theorem startPass_lastTail (s : State) : (startPass s).lastTail = 0#32 := rfl
@[simp] theorem startPass_lastHead (s : State) : (startPass s).lastHead = 0#32 := rfl
@[simp] theorem startPass_lastRes (s : State) : (startPass s).lastRes = 0#32 := rfl
@[simp] theorem startPass_ring (s : State) : (startPass s).ring = s.ring := rfl
@[simp] theorem startPass_frame (s : State) : (startPass s).frame = s.frame := rfl
@[simp] theorem startPass_readData (s : State) : (startPass s).readData = s.readData := rfl
@[simp] theorem startPass_inputs (s : State) : (startPass s).inputs = s.inputs := rfl

/-! the reducer's results (R106) -/

@[simp] theorem writeReduced_cfg (s : State) : (writeReduced s).cfg = s.cfg := rfl
@[simp] theorem writeReduced_status (s : State) : (writeReduced s).status = { s.status with sat := s.status.sat || reduceSat s.dredIn } := rfl
@[simp] theorem writeReduced_errcode (s : State) : (writeReduced s).errcode = s.errcode := rfl
@[simp] theorem writeReduced_cap (s : State) : (writeReduced s).cap = s.cap := rfl
@[simp] theorem writeReduced_flen (s : State) : (writeReduced s).flen = s.flen := rfl
@[simp] theorem writeReduced_ch (s : State) : (writeReduced s).ch = s.ch := rfl
@[simp] theorem writeReduced_cursor (s : State) : (writeReduced s).cursor = s.cursor := rfl
@[simp] theorem writeReduced_damp (s : State) : (writeReduced s).damp = s.damp := rfl
@[simp] theorem writeReduced_dredIn (s : State) : (writeReduced s).dredIn = s.dredIn := rfl
@[simp] theorem writeReduced_dredOut (s : State) : (writeReduced s).dredOut = BitVec.ofInt 32 (reduceValue s.damp s.dredIn) := rfl
@[simp] theorem writeReduced_ringAddr (s : State) : (writeReduced s).ringAddr = s.ringAddr := rfl
@[simp] theorem writeReduced_lastStart (s : State) : (writeReduced s).lastStart = s.lastStart := rfl
@[simp] theorem writeReduced_lastTail (s : State) : (writeReduced s).lastTail = s.lastTail := rfl
@[simp] theorem writeReduced_lastHead (s : State) : (writeReduced s).lastHead = s.lastHead := rfl
@[simp] theorem writeReduced_lastRes (s : State) : (writeReduced s).lastRes = s.lastRes := rfl
@[simp] theorem writeReduced_ring (s : State) : (writeReduced s).ring = s.ring := rfl
@[simp] theorem writeReduced_frame (s : State) : (writeReduced s).frame = s.frame := rfl
@[simp] theorem writeReduced_readData (s : State) : (writeReduced s).readData = s.readData := rfl
@[simp] theorem writeReduced_inputs (s : State) : (writeReduced s).inputs = s.inputs := rfl

/-! the issue step (R116) -/

@[simp] theorem presentFrame_cfg (p : FramePlan) (f : List Sample) (s : State) : (presentFrame p f s).cfg = s.cfg := rfl
@[simp] theorem presentFrame_status (p : FramePlan) (f : List Sample) (s : State) : (presentFrame p f s).status = { s.status with wrap := p.wrap, busy := true } := rfl
@[simp] theorem presentFrame_errcode (p : FramePlan) (f : List Sample) (s : State) : (presentFrame p f s).errcode = s.errcode := rfl
@[simp] theorem presentFrame_cap (p : FramePlan) (f : List Sample) (s : State) : (presentFrame p f s).cap = s.cap := rfl
@[simp] theorem presentFrame_flen (p : FramePlan) (f : List Sample) (s : State) : (presentFrame p f s).flen = s.flen := rfl
@[simp] theorem presentFrame_ch (p : FramePlan) (f : List Sample) (s : State) : (presentFrame p f s).ch = s.ch := rfl
@[simp] theorem presentFrame_cursor (p : FramePlan) (f : List Sample) (s : State) : (presentFrame p f s).cursor = if p.wrap then BitVec.ofNat 32 p.head else s.cursor := rfl
@[simp] theorem presentFrame_damp (p : FramePlan) (f : List Sample) (s : State) : (presentFrame p f s).damp = s.damp := rfl
@[simp] theorem presentFrame_dredIn (p : FramePlan) (f : List Sample) (s : State) : (presentFrame p f s).dredIn = s.dredIn := rfl
@[simp] theorem presentFrame_dredOut (p : FramePlan) (f : List Sample) (s : State) : (presentFrame p f s).dredOut = s.dredOut := rfl
@[simp] theorem presentFrame_ringAddr (p : FramePlan) (f : List Sample) (s : State) : (presentFrame p f s).ringAddr = s.ringAddr := rfl
@[simp] theorem presentFrame_lastStart (p : FramePlan) (f : List Sample) (s : State) : (presentFrame p f s).lastStart = s.cursor := rfl
@[simp] theorem presentFrame_lastTail (p : FramePlan) (f : List Sample) (s : State) : (presentFrame p f s).lastTail = BitVec.ofNat 32 p.tail := rfl
@[simp] theorem presentFrame_lastHead (p : FramePlan) (f : List Sample) (s : State) : (presentFrame p f s).lastHead = BitVec.ofNat 32 p.head := rfl
@[simp] theorem presentFrame_lastRes (p : FramePlan) (f : List Sample) (s : State) : (presentFrame p f s).lastRes = s.lastRes := rfl
@[simp] theorem presentFrame_ring (p : FramePlan) (f : List Sample) (s : State) : (presentFrame p f s).ring = s.ring := rfl
@[simp] theorem presentFrame_frame (p : FramePlan) (f : List Sample) (s : State) : (presentFrame p f s).frame = f := rfl
@[simp] theorem presentFrame_readData (p : FramePlan) (f : List Sample) (s : State) : (presentFrame p f s).readData = s.readData := rfl
@[simp] theorem presentFrame_inputs (p : FramePlan) (f : List Sample) (s : State) : (presentFrame p f s).inputs = s.inputs := rfl

/-! Hard reset (R149) and the placed access -/

@[simp] theorem hardReset_cfg (s : State) : (hardReset s).cfg = s.cfg := rfl
@[simp] theorem hardReset_status (s : State) : (hardReset s).status = (State.resetWith s.cfg).status := rfl
@[simp] theorem hardReset_errcode (s : State) : (hardReset s).errcode = (State.resetWith s.cfg).errcode := rfl
@[simp] theorem hardReset_cap (s : State) : (hardReset s).cap = (State.resetWith s.cfg).cap := rfl
@[simp] theorem hardReset_flen (s : State) : (hardReset s).flen = (State.resetWith s.cfg).flen := rfl
@[simp] theorem hardReset_ch (s : State) : (hardReset s).ch = (State.resetWith s.cfg).ch := rfl
@[simp] theorem hardReset_cursor (s : State) : (hardReset s).cursor = (State.resetWith s.cfg).cursor := rfl
@[simp] theorem hardReset_damp (s : State) : (hardReset s).damp = (State.resetWith s.cfg).damp := rfl
@[simp] theorem hardReset_dredIn (s : State) : (hardReset s).dredIn = (State.resetWith s.cfg).dredIn := rfl
@[simp] theorem hardReset_dredOut (s : State) : (hardReset s).dredOut = (State.resetWith s.cfg).dredOut := rfl
@[simp] theorem hardReset_ringAddr (s : State) : (hardReset s).ringAddr = (State.resetWith s.cfg).ringAddr := rfl
@[simp] theorem hardReset_lastStart (s : State) : (hardReset s).lastStart = (State.resetWith s.cfg).lastStart := rfl
@[simp] theorem hardReset_lastTail (s : State) : (hardReset s).lastTail = (State.resetWith s.cfg).lastTail := rfl
@[simp] theorem hardReset_lastHead (s : State) : (hardReset s).lastHead = (State.resetWith s.cfg).lastHead := rfl
@[simp] theorem hardReset_lastRes (s : State) : (hardReset s).lastRes = (State.resetWith s.cfg).lastRes := rfl
@[simp] theorem hardReset_ring (s : State) : (hardReset s).ring = (State.resetWith s.cfg).ring := rfl
@[simp] theorem hardReset_frame (s : State) : (hardReset s).frame = (State.resetWith s.cfg).frame := rfl
@[simp] theorem hardReset_readData (s : State) : (hardReset s).readData = (State.resetWith s.cfg).readData := rfl
@[simp] theorem hardReset_inputs (s : State) : (hardReset s).inputs = s.inputs := rfl

@[simp] theorem resetWith_cfg (c : Config) : (State.resetWith c).cfg = c := rfl
@[simp] theorem resetWith_status (c : Config) : (State.resetWith c).status = Status.reset := rfl
@[simp] theorem resetWith_errcode (c : Config) : (State.resetWith c).errcode = .noError := rfl
@[simp] theorem resetWith_cap (c : Config) : (State.resetWith c).cap = 0#32 := rfl
@[simp] theorem resetWith_flen (c : Config) : (State.resetWith c).flen = 0#32 := rfl
@[simp] theorem resetWith_ch (c : Config) : (State.resetWith c).ch = 0#32 := rfl
@[simp] theorem resetWith_cursor (c : Config) : (State.resetWith c).cursor = 0#32 := rfl
@[simp] theorem resetWith_damp (c : Config) : (State.resetWith c).damp = c.dampReset := rfl
@[simp] theorem resetWith_dredIn (c : Config) : (State.resetWith c).dredIn = 0#32 := rfl
@[simp] theorem resetWith_dredOut (c : Config) : (State.resetWith c).dredOut = 0#32 := rfl
@[simp] theorem resetWith_ringAddr (c : Config) : (State.resetWith c).ringAddr = 0#32 := rfl
@[simp] theorem resetWith_lastStart (c : Config) : (State.resetWith c).lastStart = 0#32 := rfl
@[simp] theorem resetWith_lastTail (c : Config) : (State.resetWith c).lastTail = 0#32 := rfl
@[simp] theorem resetWith_lastHead (c : Config) : (State.resetWith c).lastHead = 0#32 := rfl
@[simp] theorem resetWith_lastRes (c : Config) : (State.resetWith c).lastRes = 0#32 := rfl
@[simp] theorem resetWith_ring (c : Config) : (State.resetWith c).ring = [] := rfl
@[simp] theorem resetWith_frame (c : Config) : (State.resetWith c).frame = [] := rfl
@[simp] theorem resetWith_readData (c : Config) : (State.resetWith c).readData = none := rfl
@[simp] theorem resetWith_inputs (c : Config) : (State.resetWith c).inputs = [] := rfl

@[simp] theorem withFetchWord_inputs (s : State) (n w : Nat) :
    (s.withFetchWord n w).inputs = .host (tableAccess n w) :: s.inputs := rfl

/-- The placed access is all that changes. -/
theorem withFetchWord_rest (s : State) (n w : Nat) :
    { s.withFetchWord n w with inputs := s.inputs } = s := rfl

end Sys2Proof.Machine
end

