-- ==== Sys2Proof/Laws/Ops.lean ====
section
/-! SUPPORT. What each shared operation can do, said once: if it answers a next state, then one of these cases
holds; and where it stops. -/

namespace Sys2Proof.Machine

variable {s t : State}

/-- The code of an error recorded earlier stays (R131). -/
theorem signalError_errcode_of_err {e : ErrCode} (h : s.status.err = true) :
    (signalError e s).errcode = s.errcode := by
  simp [signalError, h]

/-- The first code since ERR was cleared is recorded (R131). -/
theorem signalError_errcode_of_clear {e : ErrCode} (h : s.status.err = false) :
    (signalError e s).errcode = e := by
  simp [signalError, h]

@[simp] theorem raise_next {e : ErrCode} : raise e s = .next t ↔ signalError e s = t := by
  simp [raise]

@[simp] theorem readReg_next {v : Word} : readReg v s = .next t ↔ respond v s = t := by
  simp [readReg]

@[simp] theorem ignoreWrite_next : ignoreWrite s = .next t ↔ s = t := by
  simp [ignoreWrite]

@[simp] theorem hostWrite_idle {body : State → Result} (h : s.status.busy = false) :
    hostWrite body s = body s := by
  simp [hostWrite, h]

@[simp] theorem hostWrite_busy {body : State → Result} (h : s.status.busy = true) :
    hostWrite body s = raise .busy s := by
  simp [hostWrite, h]

theorem hostWrite_next {body : State → Result} (h : hostWrite body s = .next t) :
    (s.status.busy = true ∧ t = signalError .busy s) ∨ (s.status.busy = false ∧ body s = .next t) := by
  unfold hostWrite at h
  split at h
  · exact .inl ⟨‹_›, (raise_next.1 h).symm⟩
  · exact .inr ⟨Bool.eq_false_of_not_eq_true ‹_›, h⟩

theorem reduceStore_next {idx : BitVec 24} (h : reduceStore idx s = .next t) :
    (s.cfg.capMax ≤ idx.toNat ∧ t = signalError .ringRange s) ∨
    (idx.toNat < s.cfg.capMax ∧
      t = { writeReduced s with
        ring := Memory.write s.ring idx.toNat (BitVec.ofInt 16 (reduceValue s.damp s.dredIn)) }) := by
  unfold reduceStore at h
  split at h
  · exact .inl ⟨‹_›, (raise_next.1 h).symm⟩
  · exact .inr ⟨by omega, by simpa using h.symm⟩

theorem normalizeCmd_next (h : normalizeCmd s = .next t) :
    (s.status.configured = false ∧ t = signalError .notConfigured s) ∨
    (s.status.configured = true ∧ s.cfg.hostLe = true ∧
      t = flipSwapped { s with ring := Memory.swapBelow s.cap.toNat s.ring }) ∨
    (s.status.configured = true ∧ s.cfg.hostLe = false ∧ t = s) := by
  unfold normalizeCmd at h
  split at h
  · split at h
    · exact .inr (.inl ⟨‹_›, ‹_›, by simpa using h.symm⟩)
    · exact .inr (.inr ⟨‹_›, Bool.eq_false_of_not_eq_true ‹_›, by simpa using h.symm⟩)
  · exact .inl ⟨Bool.eq_false_of_not_eq_true ‹_›, (raise_next.1 h).symm⟩

theorem issueFrame_next (h : issueFrame s = .next t) :
    (s.status.configured = false ∧ t = signalError .notConfigured s) ∨
    (s.status.configured = true ∧ ∃ f, gatherFrame s.ring (framePlan s) = some f ∧
      t = presentFrame (framePlan s) f s) := by
  unfold issueFrame at h
  split at h
  · split at h
    · simp at h
    · rename_i f hf
      exact .inr ⟨‹_›, f, hf, by simpa using h.symm⟩
  · exact .inl ⟨Bool.eq_false_of_not_eq_true ‹_›, (raise_next.1 h).symm⟩

theorem issueFrame_fault {r : Fault} (h : issueFrame s = .fault r) :
    r = .uninitRead ∧ s.status.configured = true ∧ gatherFrame s.ring (framePlan s) = none := by
  unfold issueFrame raise at h
  split at h
  · split at h
    · rename_i hg
      exact ⟨by simpa using h.symm, ‹_›, hg⟩
    · simp at h
  · simp at h

theorem gatherFrame_eq_some {m : Memory} {p : FramePlan} {f : List Sample} (h : gatherFrame m p = some f) :
    ∃ a b, Memory.gather m p.start p.tail = some a ∧ Memory.gather m 0 p.head = some b ∧ f = a ++ b := by
  unfold gatherFrame at h
  split at h
  · rename_i a b ha hb
    exact ⟨a, b, ha, hb, by simpa using h.symm⟩
  · simp at h

theorem configureCmd_next (h : configureCmd s = .next t) :
    (∃ e, configureError s = some e ∧ t = signalError e (setConfigured false s)) ∨
    (configureError s = none ∧ t = startPass s) := by
  unfold configureCmd at h
  split at h
  · exact .inl ⟨_, ‹_›, (raise_next.1 h).symm⟩
  · exact .inr ⟨‹_›, by simpa using h.symm⟩

/-- Every check of R100 passes exactly when CONFIGURE succeeds. -/
theorem configureError_none :
    configureError s = none ↔
      1 ≤ s.cap.toNat ∧ 1 ≤ s.flen.toNat ∧ 1 ≤ s.ch.toNat ∧ s.cap.toNat ≤ s.cfg.capMax ∧
        s.cap.toNat % s.ch.toNat = 0 ∧ frameSize s ≤ s.cap.toNat := by
  unfold configureError
  split_ifs <;> simp <;> omega

theorem configureError_ne_noError {e : ErrCode} (h : configureError s = some e) : e ≠ .noError := by
  unfold configureError at h
  split_ifs at h <;> simp_all <;> subst h <;> simp

theorem readRing_next (h : readRing s = .next t) :
    (s.cfg.capMax ≤ s.ringAddr.toNat ∧ t = respond 0#32 (signalError .ringRange s)) ∨
    (s.ringAddr.toNat < s.cfg.capMax ∧ ∃ w, Memory.read s.ring s.ringAddr.toNat = some w ∧
      t = respond (w.setWidth 32) { s with ringAddr := s.ringAddr + 1#32 }) := by
  unfold readRing at h
  split at h
  · exact .inl ⟨‹_›, by simpa using h.symm⟩
  · split at h
    · simp at h
    · rename_i w hw
      exact .inr ⟨by omega, w, hw, by simpa using h.symm⟩

theorem writeRing_next {v : Word} (h : writeRing v s = .next t) :
    (s.cfg.capMax ≤ s.ringAddr.toNat ∧ t = signalError .ringRange s) ∨
    (s.ringAddr.toNat < s.cfg.capMax ∧
      t = { s with
        ring := Memory.write s.ring s.ringAddr.toNat (v.setWidth 16)
        ringAddr := s.ringAddr + 1#32 }) := by
  unfold writeRing at h
  split at h
  · exact .inl ⟨‹_›, (raise_next.1 h).symm⟩
  · exact .inr ⟨by omega, by simpa using h.symm⟩

theorem writeDamp_next {v : Word} (h : writeDamp v s = .next t) :
    (dampLegal v = true ∧ t = { s with damp := v }) ∨ (dampLegal v = false ∧ t = signalError .dampIllegal s) := by
  unfold writeDamp at h
  split at h
  · exact .inl ⟨‹_›, by simpa using h.symm⟩
  · exact .inr ⟨Bool.eq_false_of_not_eq_true ‹_›, (raise_next.1 h).symm⟩

/-- The four outcomes of a sink result (R123 to R126). -/
theorem settleFrame_cases (r : Word) (s : State) :
    (r.toInt < 0 ∧ settleFrame r s = signalError .sinkFailure (setShort false s)) ∨
    ((s.flen.toNat : Int) < r.toInt ∧ settleFrame r s = signalError .sinkProtocol (setShort false s)) ∨
    (0 ≤ r.toInt ∧ r.toInt ≤ s.flen.toNat ∧ s.status.wrap = true ∧
      settleFrame r s = setShort (isShort r s.flen) s) ∨
    (0 ≤ r.toInt ∧ r.toInt ≤ s.flen.toNat ∧ s.status.wrap = false ∧
      settleFrame r s = { setShort (isShort r s.flen) s with
        cursor := BitVec.ofNat 32 (s.cursor.toNat + r.toNat * s.ch.toNat) }) := by
  unfold settleFrame consumeFrame
  split_ifs with h1 h2 h3
  · exact .inl ⟨h1, rfl⟩
  · exact .inr (.inl ⟨h2, rfl⟩)
  · exact .inr (.inr (.inl ⟨by omega, by omega, by simpa using h3, rfl⟩))
  · exact .inr (.inr (.inr ⟨by omega, by omega, by simpa using h3, rfl⟩))

theorem takeInput_none : takeInput s = none ↔ s.inputs = [] := by
  unfold takeInput
  split <;> simp_all

theorem takeInput_some {x : Input} : takeInput s = some (x, t) ↔
    ∃ rest, s.inputs = x :: rest ∧ t = { s with inputs := rest } := by
  unfold takeInput
  split
  · simp_all
  · rename_i y rest h
    simp only [Option.some.injEq, Prod.mk.injEq]
    constructor
    · rintro ⟨rfl, rfl⟩
      exact ⟨rest, h, rfl⟩
    · rintro ⟨rest', h', rfl⟩
      rw [h] at h'
      simp at h'
      obtain ⟨rfl, rfl⟩ := h'
      exact ⟨rfl, rfl⟩

/-- What a step that answers a next state did: nothing, a host access, a sink answer or hard reset. -/
theorem step_cases (h : step s = .next t) :
    (s.inputs = [] ∧ t = s) ∨
    (∃ a rest i, s.inputs = .host a :: rest ∧ decode a = .ok i ∧ exec i { s with inputs := rest } = .next t) ∨
    (∃ r rest, s.inputs = .sink r :: rest ∧ t = answerSink r { s with inputs := rest }) ∨
    (∃ rest, s.inputs = .hardReset :: rest ∧ t = hardReset { s with inputs := rest }) := by
  unfold step at h
  split at h
  · rename_i hn
    exact .inl ⟨takeInput_none.1 hn, by simpa using h.symm⟩
  · rename_i a u hu
    obtain ⟨rest, hr, rfl⟩ := takeInput_some.1 hu
    split at h
    · rename_i i hi
      exact .inr (.inl ⟨a, rest, i, hr, hi, h⟩)
    · simp at h
  · rename_i r u hu
    obtain ⟨rest, hr, rfl⟩ := takeInput_some.1 hu
    exact .inr (.inr (.inl ⟨r, rest, hr, by simpa using h.symm⟩))
  · rename_i u hu
    obtain ⟨rest, hr, rfl⟩ := takeInput_some.1 hu
    exact .inr (.inr (.inr ⟨rest, hr, by simpa using h.symm⟩))

/-- What a bus write of CMD runs: the decoded command's operation (R88, R98). -/
theorem execCmd_next {c : Command} (h : execCmd c s = .next t) :
    (c = .bad ∧ t = signalError .badCmd s) ∨ (c = .nop ∧ t = s) ∨ (c = .configure ∧ configureCmd s = .next t) ∨
    (c = .nextFrame ∧ issueFrame s = .next t) ∨ (c = .normalize ∧ normalizeCmd s = .next t) ∨
    (c = .reduce ∧ t = writeReduced s) ∨ (∃ idx, c = .reduceSt idx ∧ reduceStore idx s = .next t) ∨
    (c = .softReset ∧ softResetCmd s = .next t) := by
  cases c <;> simp_all [execCmd, badCommand, nopCmd, reduceCmd, raise]

end Sys2Proof.Machine
end

