-- ==== Sys2Proof/Laws/PerInstr.lean ====
section
/-! SUPPORT. Facts about every instruction as syntax, one lemma per constructor. -/

namespace Sys2Proof.Laws

/-- A whole 32-bit word at a multiple of 4 that R19 lists (R53, R54). -/
def MappedAccess (a : BusAccess) : Prop :=
  a.width = .w32 ∧ a.off.toNat % 4 = 0 ∧ a.off.toNat ≤ 0x40

theorem readAccess_mapped (off : BitVec 8) (h4 : off.toNat % 4 = 0) (hmax : off.toNat ≤ 0x40) :
    MappedAccess (readAccess off) := ⟨rfl, h4, hmax⟩

theorem writeAccess_mapped (off : BitVec 8) (v : Word) (h4 : off.toNat % 4 = 0) (hmax : off.toNat ≤ 0x40) :
    MappedAccess (writeAccess off v) := ⟨rfl, h4, hmax⟩

/-- The instruction's access is one the bus accepts. -/
def EncodesMappedAccess.Statement (i : Instr) : Prop := MappedAccess (encode i)

theorem EncodesMappedAccess.nop : EncodesMappedAccess.Statement .nop :=
  writeAccess_mapped _ _ (by decide) (by decide)
theorem EncodesMappedAccess.configure : EncodesMappedAccess.Statement .configure :=
  writeAccess_mapped _ _ (by decide) (by decide)
theorem EncodesMappedAccess.nextFrame : EncodesMappedAccess.Statement .nextFrame :=
  writeAccess_mapped _ _ (by decide) (by decide)
theorem EncodesMappedAccess.normalize : EncodesMappedAccess.Statement .normalize :=
  writeAccess_mapped _ _ (by decide) (by decide)
theorem EncodesMappedAccess.reduce : EncodesMappedAccess.Statement .reduce :=
  writeAccess_mapped _ _ (by decide) (by decide)
theorem EncodesMappedAccess.reduceSt (idx : BitVec 24) : EncodesMappedAccess.Statement (.reduceSt idx) :=
  writeAccess_mapped _ _ (by decide) (by decide)
theorem EncodesMappedAccess.softReset : EncodesMappedAccess.Statement .softReset :=
  writeAccess_mapped _ _ (by decide) (by decide)
theorem EncodesMappedAccess.reserved (word : Word) : EncodesMappedAccess.Statement (.reserved word) :=
  writeAccess_mapped _ _ (by decide) (by decide)
theorem EncodesMappedAccess.rdId : EncodesMappedAccess.Statement .rdId :=
  readAccess_mapped _ (by decide) (by decide)
theorem EncodesMappedAccess.rdStatus : EncodesMappedAccess.Statement .rdStatus :=
  readAccess_mapped _ (by decide) (by decide)
theorem EncodesMappedAccess.rdErrcode : EncodesMappedAccess.Statement .rdErrcode :=
  readAccess_mapped _ (by decide) (by decide)
theorem EncodesMappedAccess.rdCmd : EncodesMappedAccess.Statement .rdCmd :=
  readAccess_mapped _ (by decide) (by decide)
theorem EncodesMappedAccess.rdCap : EncodesMappedAccess.Statement .rdCap :=
  readAccess_mapped _ (by decide) (by decide)
theorem EncodesMappedAccess.rdFlen : EncodesMappedAccess.Statement .rdFlen :=
  readAccess_mapped _ (by decide) (by decide)
theorem EncodesMappedAccess.rdCh : EncodesMappedAccess.Statement .rdCh :=
  readAccess_mapped _ (by decide) (by decide)
theorem EncodesMappedAccess.rdCursor : EncodesMappedAccess.Statement .rdCursor :=
  readAccess_mapped _ (by decide) (by decide)
theorem EncodesMappedAccess.rdDamp : EncodesMappedAccess.Statement .rdDamp :=
  readAccess_mapped _ (by decide) (by decide)
theorem EncodesMappedAccess.rdDredIn : EncodesMappedAccess.Statement .rdDredIn :=
  readAccess_mapped _ (by decide) (by decide)
theorem EncodesMappedAccess.rdDredOut : EncodesMappedAccess.Statement .rdDredOut :=
  readAccess_mapped _ (by decide) (by decide)
theorem EncodesMappedAccess.rdRingAddr : EncodesMappedAccess.Statement .rdRingAddr :=
  readAccess_mapped _ (by decide) (by decide)
theorem EncodesMappedAccess.rdRingData : EncodesMappedAccess.Statement .rdRingData :=
  readAccess_mapped _ (by decide) (by decide)
theorem EncodesMappedAccess.rdLastStart : EncodesMappedAccess.Statement .rdLastStart :=
  readAccess_mapped _ (by decide) (by decide)
theorem EncodesMappedAccess.rdLastTail : EncodesMappedAccess.Statement .rdLastTail :=
  readAccess_mapped _ (by decide) (by decide)
theorem EncodesMappedAccess.rdLastHead : EncodesMappedAccess.Statement .rdLastHead :=
  readAccess_mapped _ (by decide) (by decide)
theorem EncodesMappedAccess.rdLastRes : EncodesMappedAccess.Statement .rdLastRes :=
  readAccess_mapped _ (by decide) (by decide)
theorem EncodesMappedAccess.wrId (v : Word) : EncodesMappedAccess.Statement (.wrId v) :=
  writeAccess_mapped _ _ (by decide) (by decide)
theorem EncodesMappedAccess.wrStatus (v : Word) : EncodesMappedAccess.Statement (.wrStatus v) :=
  writeAccess_mapped _ _ (by decide) (by decide)
theorem EncodesMappedAccess.wrErrcode (v : Word) : EncodesMappedAccess.Statement (.wrErrcode v) :=
  writeAccess_mapped _ _ (by decide) (by decide)
theorem EncodesMappedAccess.wrCmd (v : Word) : EncodesMappedAccess.Statement (.wrCmd v) :=
  writeAccess_mapped _ _ (by decide) (by decide)
theorem EncodesMappedAccess.wrCap (v : Word) : EncodesMappedAccess.Statement (.wrCap v) :=
  writeAccess_mapped _ _ (by decide) (by decide)
theorem EncodesMappedAccess.wrFlen (v : Word) : EncodesMappedAccess.Statement (.wrFlen v) :=
  writeAccess_mapped _ _ (by decide) (by decide)
theorem EncodesMappedAccess.wrCh (v : Word) : EncodesMappedAccess.Statement (.wrCh v) :=
  writeAccess_mapped _ _ (by decide) (by decide)
theorem EncodesMappedAccess.wrCursor (v : Word) : EncodesMappedAccess.Statement (.wrCursor v) :=
  writeAccess_mapped _ _ (by decide) (by decide)
theorem EncodesMappedAccess.wrDamp (v : Word) : EncodesMappedAccess.Statement (.wrDamp v) :=
  writeAccess_mapped _ _ (by decide) (by decide)
theorem EncodesMappedAccess.wrDredIn (v : Word) : EncodesMappedAccess.Statement (.wrDredIn v) :=
  writeAccess_mapped _ _ (by decide) (by decide)
theorem EncodesMappedAccess.wrDredOut (v : Word) : EncodesMappedAccess.Statement (.wrDredOut v) :=
  writeAccess_mapped _ _ (by decide) (by decide)
theorem EncodesMappedAccess.wrRingAddr (v : Word) : EncodesMappedAccess.Statement (.wrRingAddr v) :=
  writeAccess_mapped _ _ (by decide) (by decide)
theorem EncodesMappedAccess.wrRingData (v : Word) : EncodesMappedAccess.Statement (.wrRingData v) :=
  writeAccess_mapped _ _ (by decide) (by decide)
theorem EncodesMappedAccess.wrLastStart (v : Word) : EncodesMappedAccess.Statement (.wrLastStart v) :=
  writeAccess_mapped _ _ (by decide) (by decide)
theorem EncodesMappedAccess.wrLastTail (v : Word) : EncodesMappedAccess.Statement (.wrLastTail v) :=
  writeAccess_mapped _ _ (by decide) (by decide)
theorem EncodesMappedAccess.wrLastHead (v : Word) : EncodesMappedAccess.Statement (.wrLastHead v) :=
  writeAccess_mapped _ _ (by decide) (by decide)
theorem EncodesMappedAccess.wrLastRes (v : Word) : EncodesMappedAccess.Statement (.wrLastRes v) :=
  writeAccess_mapped _ _ (by decide) (by decide)

end Sys2Proof.Laws
end

