-- ==== Sys2Proof/Tests/Slice0.lean ====
section
/-! SUPPORT. Tests of single steps and of decoding, and, for every statement with hypotheses, a state that meets them.
Expected values come from spec/95_test_vectors.md (the V- names, E and P) or from the rule named; none is the model's
own answer. -/

namespace Sys2Proof.Tests

open Sys2Proof.Machine

/-! ## Helpers -/

/-- The outcome is a next state with the property. -/
def nextHas (r : Result) (p : State → Bool) : Bool :=
  match r with
  | .next t => p t
  | .fault _ => false
  | .refused _ => false

/-- The outcome is the fault. -/
def faultIs (r : Result) (f : Fault) : Bool :=
  match r with
  | .next _ => false
  | .fault g => f == g
  | .refused _ => false

/-- The next state, or the state itself where there is none; only to set tests up. -/
def run1 (i : Instr) (s : State) : State :=
  match exec i s with
  | .next t => t
  | .fault _ => s
  | .refused _ => s

/-- The state after `cfg cap, flen, ch` (R82). -/
def cfgState (cap flen ch : Word) (s : State) : State :=
  run1 .configure (run1 (.wrCh ch) (run1 (.wrFlen flen) (run1 (.wrCap cap) s)))

/-- The default parameters with P_HOST_LE = 0. -/
def resetBe : State := State.resetWith { Config.default with hostLe := false }

/-- RING[i] = 0x0100 + i for i = 0 .. 7. -/
def ring8 : Memory :=
  [(0, 0x0100#16), (1, 0x0101#16), (2, 0x0102#16), (3, 0x0103#16), (4, 0x0104#16), (5, 0x0105#16), (6, 0x0106#16),
    (7, 0x0107#16)]

/-- The start of the vectors of section 2.6: `cfg 8, 3, 1`, P_HOST_LE = 0, the ring loaded, CURSOR as given. -/
def seg (c : Word) : State :=
  { resetBe with
    status := { Status.reset with configured := true }
    cap := 8#32
    flen := 3#32
    ch := 1#32
    cursor := c
    ring := ring8 }

/-- `seg c` with its next frame issued. -/
def issued (c : Word) : State := run1 .nextFrame (seg c)

/-- `s` with what happens next. -/
def withInput (x : Input) (s : State) : State := { s with inputs := [x] }

/-- `s` with the host's next access the instruction `i`. -/
def withOp (i : Instr) (s : State) : State := withInput (hostOp i) s

/-- A state with an error recorded: CFG_FRAME_GT_CAP. -/
def withError (s : State) : State :=
  { s with errcode := .cfgFrameGtCap, status := { s.status with err := true } }

/-! ## Well-formedness -/

theorem test_wf_reserved_refuses_other_opcodes :
    ([0x00000000#32, 0x50000000#32, 0x5FFFFFFF#32, 0xF0000000#32].all
      fun w => !wellFormed (.reserved w)) = true := by decide

theorem test_wf_reserved_accepts :
    ([0x60000000#32, 0x6F123456#32, 0xEFFFFFFF#32].all fun w => wellFormed (.reserved w)) = true := by decide

theorem test_wf_wrCmd_refuses_owned_words :
    ([0x00000000#32, 0x10000000#32, 0x20000000#32, 0x30000000#32, 0x40000000#32, 0x50000000#32, 0x50FFFFFF#32,
      0x60000000#32, 0xEFFFFFFF#32, 0xF0000000#32].all fun w => !wellFormed (.wrCmd w)) = true := by decide

theorem test_wf_wrCmd_accepts_illegal_words :
    ([0x00000001#32, 0x21000000#32, 0x20000001#32, 0x5F000000#32, 0xF0000001#32].all
      fun w => wellFormed (.wrCmd w)) = true := by decide

/-! ## Decoding: the words of R75 and R77, the offsets of R19 -/

/-- R73, R75: OPC, RSV and ARG written out bit by bit. -/
theorem test_decode_commands :
    ([(0b00000000000000000000000000000000#32, Instr.nop),
      (0b00010000000000000000000000000000#32, .configure),
      (0b00100000000000000000000000000000#32, .nextFrame),
      (0b00110000000000000000000000000000#32, .normalize),
      (0b01000000000000000000000000000000#32, .reduce),
      (0b01010000000000000000000000000101#32, .reduceSt 5#24),
      (0b01010000100000000000000000000001#32, .reduceSt 0x800001#24),
      (0b11110000000000000000000000000000#32, .softReset),
      (0b01100000000000000000000000000000#32, .reserved 0x60000000#32),
      (0b11100000000000000000000000000000#32, .reserved 0xE0000000#32)].all
      fun e => decodeTableWord 32 e.1.toNat == some e.2) = true := by decide

/-- V-CTL-2 to V-CTL-5: no CMDW row owns these words. -/
theorem test_decode_illegal_command_words :
    ([0x21000000#32, 0x20000001#32, 0x00000001#32, 0xF0000001#32, 0x5F000000#32].all
      fun w => decodeTableWord 32 w.toNat == some (.wrCmd w) && decodeCmd w == .bad) = true := by decide

theorem test_decode_reads :
    ([(0x00, Instr.rdId), (0x04, .rdStatus), (0x08, .rdErrcode), (0x0C, .rdCmd), (0x10, .rdCap), (0x14, .rdFlen),
      (0x18, .rdCh), (0x1C, .rdCursor), (0x20, .rdDamp), (0x24, .rdDredIn), (0x28, .rdDredOut), (0x2C, .rdRingAddr),
      (0x30, .rdRingData), (0x34, .rdLastStart), (0x38, .rdLastTail), (0x3C, .rdLastHead), (0x40, .rdLastRes)].all
      fun e => decodeTableWord 8 e.1 == some e.2) = true := by decide

/-- A write of 0x80000001 at each offset. -/
theorem test_decode_writes :
    ([(0x00#8, Instr.wrId 0x80000001#32), (0x04#8, .wrStatus 0x80000001#32), (0x08#8, .wrErrcode 0x80000001#32),
      (0x0C#8, .reserved 0x80000001#32), (0x10#8, .wrCap 0x80000001#32), (0x14#8, .wrFlen 0x80000001#32),
      (0x18#8, .wrCh 0x80000001#32), (0x1C#8, .wrCursor 0x80000001#32), (0x20#8, .wrDamp 0x80000001#32),
      (0x24#8, .wrDredIn 0x80000001#32), (0x28#8, .wrDredOut 0x80000001#32), (0x2C#8, .wrRingAddr 0x80000001#32),
      (0x30#8, .wrRingData 0x80000001#32), (0x34#8, .wrLastStart 0x80000001#32), (0x38#8, .wrLastTail 0x80000001#32),
      (0x3C#8, .wrLastHead 0x80000001#32), (0x40#8, .wrLastRes 0x80000001#32)].all
      fun e =>
        match decode { op := .write 0x80000001#32, off := e.1, width := .w32 } with
        | .ok i => i == e.2
        | .error _ => false) = true := by decide

/-- V-BUS-3 to V-BUS-6. -/
theorem test_decode_refuses_by_name :
    ([({ op := .read, off := 0x04#8, width := .w8 }, DecodeError.subWord),
      ({ op := .write 0#32, off := 0x10#8, width := .w16 }, .subWord),
      ({ op := .read, off := 0x06#8, width := .w32 }, .misaligned),
      ({ op := .read, off := 0x44#8, width := .w32 }, .unmapped),
      ({ op := .write 0#32, off := 0xFC#8, width := .w32 }, .unmapped)].all
      fun e =>
        match decode e.1 with
        | .ok _ => false
        | .error d => d == e.2) = true := by decide

theorem test_decodeTableWord_none : decodeTableWord 8 0x44 = none := by decide

/-! ## The step -/

theorem test_step_runs_fetched_read :
    nextHas (step (State.reset.withFetchWord 8 0x00))
      (fun t => t.readData == some 0x52534701#32 && t.inputs.isEmpty) = true := by decide

/-- V-CTL-1 through the step. -/
theorem test_step_runs_fetched_command :
    nextHas (step (State.reset.withFetchWord 32 0x60000000))
      (fun t => t.status.err && t.errcode == .badCmd && t.inputs.isEmpty) = true := by decide

/-- V-BUS-3, V-BUS-5, V-BUS-6. -/
theorem test_step_busError :
    ([({ op := .read, off := 0x04#8, width := .w8 } : BusAccess), { op := .read, off := 0x06#8, width := .w32 },
      { op := .read, off := 0x44#8, width := .w32 }, { op := .write 0#32, off := 0xFC#8, width := .w32 }].all
      fun a => faultIs (step (withInput (.host a) State.reset)) .busError) = true := by decide

/-- R151: hard reset abandons the frame with the sink. -/
theorem test_step_hardReset_while_busy :
    nextHas (step (withInput .hardReset (issued 0#32)))
      (fun t => !t.status.busy && t.frame.isEmpty && t.ring.isEmpty && t.cap == 0#32 && t.damp == 0x03E8037B#32)
      = true := by decide

/-! ## Bus reads (V-BUS) -/

/-- V-BUS-1, V-BUS-2. -/
theorem test_reads_after_reset :
    ([(Instr.rdId, 0x52534701#32), (.rdStatus, 0x00000080#32), (.rdDamp, 0x03E8037B#32), (.rdCmd, 0#32),
      (.rdCursor, 0#32)].all
      fun e => nextHas (exec e.1 State.reset) (fun t => t.readData == some e.2)) = true
    ∧ nextHas (exec .rdStatus resetBe) (fun t => t.readData == some 0#32) = true := by decide

/-- R85 on a state whose registers all differ: the value read is the register's own. -/
theorem test_plain_reads :
    let s : State := { seg 9#32 with
      errcode := .ringRange, damp := 0x00030002#32, dredIn := 11#32, dredOut := 12#32, ringAddr := 13#32,
      lastStart := 14#32, lastTail := 15#32, lastHead := 16#32, lastRes := 17#32 }
    ([(Instr.rdErrcode, 0x00000009#32), (.rdCap, 8#32), (.rdFlen, 3#32), (.rdCh, 1#32), (.rdCursor, 9#32),
      (.rdDamp, 0x00030002#32), (.rdDredIn, 11#32), (.rdDredOut, 12#32), (.rdRingAddr, 13#32), (.rdLastStart, 14#32),
      (.rdLastTail, 15#32), (.rdLastHead, 16#32), (.rdLastRes, 17#32)].all
      fun e => nextHas (exec e.1 s) (fun t => t.readData == some e.2 && t == { s with readData := some e.2 }))
      = true := by decide

/-- R21: each flag at its own bit. -/
theorem test_status_bits :
    [({ Status.reset with busy := true } : Status), { Status.reset with configured := true },
      { Status.reset with err := true }, { Status.reset with short := true }, { Status.reset with wrap := true },
      { Status.reset with sat := true }, { Status.reset with swapped := true }].map
      (fun st => statusWord { resetBe with status := st }) =
    [0x01#32, 0x02#32, 0x04#32, 0x08#32, 0x10#32, 0x20#32, 0x40#32] := by decide

/-- V-BUS-10. -/
theorem test_rdRingData_zero_extends :
    nextHas (exec .rdRingData { State.reset with ring := [(2, 0x8001#16)], ringAddr := 2#32 })
      (fun t => t.readData == some 0x00008001#32 && t.ringAddr == 3#32) = true := by decide

/-- V-BUS-11, V-BUS-13. -/
theorem test_rdRingData_stops_and_range :
    faultIs (exec .rdRingData { State.reset with ringAddr := 7#32 }) .uninitRead = true ∧
    nextHas (exec .rdRingData { State.reset with ringAddr := 0x00100000#32 })
      (fun t => t.readData == some 0#32 && t.status.err && t.errcode == .ringRange && t.ringAddr == 0x00100000#32)
      = true := by decide

/-! ## Bus writes (V-BUS) -/

/-- V-BUS-15, V-BUS-16. -/
theorem test_wrStatus :
    let s : State := { withError (issued 6#32) with
      status := { busy := true, configured := true, err := true, short := true, wrap := true, sat := true,
                  swapped := true } }
    nextHas (exec (.wrStatus 0xFFFFFFFF#32) s)
      (fun t => statusWord t == 0x5B#32 && t.errcode == .noError) = true ∧
    nextHas (exec (.wrStatus 0x00000000#32) s) (fun t => t == s) = true := by decide

/-- V-BUS-20, and the same of FLEN and CH (R90, R91). -/
theorem test_geometry_writes_clear_configured :
    nextHas (exec (.wrCap 8#32) (seg 5#32))
      (fun t => !t.status.configured && t.cap == 8#32 && t.cursor == 5#32) = true ∧
    nextHas (exec (.wrFlen 1152#32) (seg 5#32)) (fun t => !t.status.configured && t.flen == 1152#32) = true ∧
    nextHas (exec (.wrCh 2#32) (seg 5#32)) (fun t => !t.status.configured && t.ch == 2#32) = true := by decide

/-- V-DAMP-7 to V-DAMP-9, V-DAMP-4's write. -/
theorem test_wrDamp :
    ([0x00000000#32, 0x00010002#32].all fun v => nextHas (exec (.wrDamp v) State.reset)
      (fun t => t.damp == 0x03E8037B#32 && t.status.err && t.errcode == .dampIllegal)) = true ∧
    ([0xFFFFFFFF#32, 0x00010001#32, 0x00010000#32].all fun v => nextHas (exec (.wrDamp v) State.reset)
      (fun t => t.damp == v && !t.status.err)) = true := by decide

theorem test_wrDredIn_wrRingAddr :
    nextHas (exec (.wrDredIn 0x007FFFFF#32) State.reset) (fun t => t.dredIn == 0x007FFFFF#32) = true ∧
    nextHas (exec (.wrRingAddr 0x00100000#32) State.reset)
      (fun t => t.ringAddr == 0x00100000#32 && !t.status.err) = true := by decide

/-- V-BUS-9, V-BUS-14. -/
theorem test_wrRingData_stores_low_half :
    nextHas (exec (.wrRingData 0xFFFF8001#32) { State.reset with ringAddr := 2#32 })
      (fun t => Memory.read t.ring 2 == some 0x8001#16 && t.ringAddr == 3#32) = true ∧
    nextHas (exec (.wrRingData 1#32) { State.reset with ringAddr := 0x000FFFFF#32 })
      (fun t => Memory.read t.ring 0xFFFFF == some 0x0001#16 && t.ringAddr == 0x00100000#32) = true := by decide

/-- V-BUS-12. -/
theorem test_wrRingData_range :
    nextHas (exec (.wrRingData 5#32) { State.reset with ringAddr := 0x00100000#32 })
      (fun t => t.errcode == .ringRange && t.ringAddr == 0x00100000#32 && t.ring.isEmpty) = true := by decide

/-- V-BUS-7, V-BUS-19: ignored, while busy too. -/
theorem test_readonly_writes_ignored :
    ([Instr.wrId 0#32, .wrErrcode 5#32, .wrCursor 5#32, .wrDredOut 5#32, .wrLastStart 5#32, .wrLastTail 5#32,
      .wrLastHead 5#32, .wrLastRes 1#32].all
      fun i => nextHas (exec i (issued 0#32)) (fun t => t == issued 0#32)) = true := by decide

/-- V-BUS-17, V-SEG-18, P4 line 13: dropped with BUSY. -/
theorem test_busy_drops :
    ([Instr.wrDamp 0x00010001#32, .nextFrame, .softReset, .wrCap 16#32, .nop, .reserved 0x60000000#32].all
      fun i => nextHas (exec i (issued 0#32))
        (fun t => t == { issued 0#32 with errcode := .busy, status := { (issued 0#32).status with err := true } }))
      = true := by decide

/-- V-CTL-2, V-CTL-3. -/
theorem test_wrCmd_illegal_words :
    ([0x21000000#32, 0x20000001#32].all fun w => nextHas (exec (.wrCmd w) (seg 0#32))
      (fun t => t.errcode == .badCmd && !t.status.busy && t.frame.isEmpty)) = true := by decide

/-! ## Control commands (V-CTL) -/

/-- V-CTL-1. -/
theorem test_reserved :
    nextHas (exec (.reserved 0xE0000000#32) (seg 0#32))
      (fun t => t == { seg 0#32 with errcode := .badCmd, status := { (seg 0#32).status with err := true } })
      = true := by decide

/-- V-CTL-19. -/
theorem test_nop : nextHas (exec .nop (seg 5#32)) (fun t => t == seg 5#32) = true := by decide

/-- V-CTL-8, 9, 11, 12, 14, 15: code and CONFIGURED. -/
theorem test_configure_errors :
    ([((0#32, 3#32, 1#32), ErrCode.cfgZero), ((8#32, 0#32, 1#32), .cfgZero), ((8#32, 3#32, 0#32), .cfgZero),
      ((1048577#32, 1#32, 1#32), .cfgCapRange), ((9#32, 1#32, 2#32), .cfgCapNotMultCh),
      ((8#32, 9#32, 1#32), .cfgFrameGtCap), ((9#32, 5#32, 2#32), .cfgCapNotMultCh),
      ((1048577#32, 1#32, 0#32), .cfgZero)].all
      fun e =>
        let t := cfgState e.1.1 e.1.2.1 e.1.2.2 State.reset
        t.errcode == e.2 && t.status.err && !t.status.configured) = true := by decide

/-- V-CTL-7, 10, 13, 16. -/
theorem test_configure_succeeds :
    statusWord (cfgState 96000#32 1152#32 1#32 State.reset) = 0x82#32 ∧
    statusWord (cfgState 1048576#32 1#32 1#32 State.reset) = 0x82#32 ∧
    statusWord (cfgState 8#32 8#32 1#32 State.reset) = 0x82#32 ∧
    statusWord (cfgState 8#32 4#32 2#32 State.reset) = 0x82#32 ∧
    (cfgState 9#32 1#32 2#32 (withError State.reset)).errcode = .cfgFrameGtCap := by decide

/-- V-CTL-18: SWAPPED and the ring kept. -/
theorem test_softReset :
    let s : State := { withError (seg 5#32) with
      cfg := Config.default, damp := 0x00010001#32, lastRes := 3#32
      status := { busy := false, configured := true, err := true, short := true, wrap := true, sat := true,
                  swapped := true } }
    nextHas (exec .softReset s)
      (fun t => t == { State.reset with ring := ring8, status := { Status.reset with swapped := true } }
        && statusWord t == 0xC0#32) = true := by decide

/-! ## Depth reducer (V-DRED, V-DAMP) -/

/-- V-DRED-1 to V-DRED-21: DRED_IN, DRED_OUT, SAT. -/
theorem test_reduce :
    ([(0x00000000#32, 0x00000000#32, false), (0x0000007F#32, 0x00000000#32, false),
      (0x00000080#32, 0x00000000#32, false), (0xFFFFFF80#32, 0x00000000#32, false),
      (0xFFFFFF7F#32, 0x00000000#32, false), (0x0000017F#32, 0x00000000#32, false),
      (0x00000180#32, 0x00000001#32, false), (0xFFFFFE80#32, 0x00000000#32, false),
      (0xFFFFFE7F#32, 0xFFFFFFFF#32, false), (0x0003E800#32, 0x0000037B#32, false),
      (0xFFFC1800#32, 0xFFFFFC85#32, false), (0x007FFF7F#32, 0x0000720B#32, false),
      (0x007FFF80#32, 0x0000720B#32, true), (0x007FFFFF#32, 0x0000720B#32, true),
      (0xFF800000#32, 0xFFFF8DF4#32, false), (0xFF7FFF80#32, 0xFFFF8DF4#32, false),
      (0xFF7FFF7F#32, 0xFFFF8DF4#32, true), (0x00800000#32, 0x0000720B#32, true),
      (0x7FFFFFFF#32, 0x0000720B#32, true), (0x80000000#32, 0xFFFF8DF4#32, true),
      (0xFFFFFD00#32, 0xFFFFFFFE#32, false)].all
      fun e => nextHas (exec .reduce { State.reset with dredIn := e.1 })
        (fun t => t.dredOut == e.2.1 && t.status.sat == e.2.2)) = true := by decide

/-- V-DAMP-1 to V-DAMP-6: DAMP, DRED_IN, DRED_OUT; V-DRED-22: SAT is sticky. -/
theorem test_reduce_damping :
    ([(0x00010001#32, 0x0003E800#32, 0x000003E8#32), (0x00010001#32, 0x007FFFFF#32, 0x00007FFF#32),
      (0x00010001#32, 0xFF800000#32, 0xFFFF8000#32), (0x00010000#32, 0x0003E800#32, 0x00000000#32),
      (0x00020001#32, 0xFFFFFD00#32, 0xFFFFFFFF#32), (0x00030002#32, 0x0003E800#32, 0x0000029A#32)].all
      fun e => nextHas (exec .reduce { State.reset with damp := e.1, dredIn := e.2.1 })
        (fun t => t.dredOut == e.2.2)) = true ∧
    nextHas (exec .reduce { State.reset with status := { Status.reset with sat := true } })
      (fun t => t.status.sat) = true := by decide

/-- V-DRED-23, V-DRED-24. -/
theorem test_reduceSt :
    nextHas (exec (.reduceSt 5#24) { State.reset with dredIn := 0x007FFFFF#32 })
      (fun t => Memory.read t.ring 5 == some 0x720B#16 && t.dredOut == 0x0000720B#32 && t.status.sat
        && t.ringAddr == 0#32) = true ∧
    nextHas (exec (.reduceSt 1#24) { State.reset with dredIn := 0xFFFC1800#32 })
      (fun t => Memory.read t.ring 1 == some 0xFC85#16) = true := by decide

/-- V-CTL-6. -/
theorem test_reduceSt_range :
    nextHas (exec (.reduceSt 0xFFFFFF#24) { State.reset with dredIn := 0x007FFFFF#32 })
      (fun t => t.errcode == .ringRange && t.dredOut == 0#32 && !t.status.sat && t.ring.isEmpty) = true := by decide

/-! ## Endianness normaliser (V-ENDN) -/

/-- V-ENDN-1 to V-ENDN-4. -/
theorem test_swap16 :
    [0x1234#16, 0x00FF#16, 0x8000#16, 0x0000#16, 0xFFFF#16, 0xABAB#16].map swap16 =
    [0x3412#16, 0xFF00#16, 0x0080#16, 0x0000#16, 0xFFFF#16, 0xABAB#16] := by decide

/-- The state of V-ENDN-5 before its NORMALIZE, for either strap. -/
def endn (hostLe : Bool) : State :=
  { State.resetWith { Config.default with hostLe := hostLe } with
    status := { Status.reset with configured := true }
    cap := 2#32
    flen := 1#32
    ch := 1#32
    ring := [(0, 0x1234#16), (1, 0x00FF#16), (2, 0x8000#16)] }

/-- V-ENDN-5, V-ENDN-6, V-ENDN-8. -/
theorem test_normalize :
    nextHas (exec .normalize (endn true))
      (fun t => t.ring == [(0, 0x3412#16), (1, 0xFF00#16), (2, 0x8000#16)] && statusWord t == 0xC2#32) = true ∧
    nextHas (exec .normalize (endn false)) (fun t => t == endn false && statusWord t == 0x02#32) = true ∧
    nextHas (exec .normalize (run1 .normalize (endn true))) (fun t => t == endn true) = true := by decide

/-- V-ENDN-7, V-ENDN-9. -/
theorem test_normalize_unconfigured_and_unwritten :
    nextHas (exec .normalize { endn true with status := Status.reset })
      (fun t => t.errcode == .notConfigured && t.ring == (endn true).ring) = true ∧
    nextHas (exec .normalize { endn true with ring := [] })
      (fun t => t.ring.isEmpty && t.status.swapped) = true := by decide

/-- V-ENDN-10, V-ENDN-11. -/
theorem test_wire_bytes :
    storageBytes true 0x3412#16 = [0x12#8, 0x34#8] ∧ storageBytes false 0x1234#16 = [0x12#8, 0x34#8] := by decide

/-! ## Segmenter (V-SEG) -/

/-- V-SEG-1, 2, 3, 4, 5 at issue: CURSOR before; FRAME, LAST_TAIL, LAST_HEAD, CURSOR, STATUS after. -/
theorem test_nextFrame_issue :
    ([(0#32, [0x0100#16, 0x0101#16, 0x0102#16], 3#32, 0#32, 0#32, 0x03#32),
      (5#32, [0x0105#16, 0x0106#16, 0x0107#16], 3#32, 0#32, 5#32, 0x03#32),
      (8#32, [0x0100#16, 0x0101#16, 0x0102#16], 0#32, 3#32, 3#32, 0x13#32),
      (6#32, [0x0106#16, 0x0107#16, 0x0100#16], 2#32, 1#32, 1#32, 0x13#32),
      (7#32, [0x0107#16, 0x0100#16, 0x0101#16], 1#32, 2#32, 2#32, 0x13#32)].all
      fun e => nextHas (exec .nextFrame (seg e.1))
        (fun t => t.frame == e.2.1 && t.lastTail == e.2.2.1 && t.lastHead == e.2.2.2.1 && t.cursor == e.2.2.2.2.1
          && statusWord t == e.2.2.2.2.2 && t.lastStart == e.1)) = true := by decide

/-- V-SEG-17, V-SEG-19. -/
theorem test_nextFrame_stops :
    nextHas (exec .nextFrame { seg 0#32 with status := Status.reset })
      (fun t => t.errcode == .notConfigured && !t.status.busy) = true ∧
    faultIs (exec .nextFrame { seg 0#32 with ring := [] }) .uninitRead = true := by decide

/-- V-SEG-1, 2, 6, 8, 11, 16: CURSOR at issue and the sink's answer; CURSOR and STATUS after. -/
theorem test_sink_accepts :
    ([(0#32, 3#32, 3#32, 0x02#32), (5#32, 3#32, 8#32, 0x02#32), (0#32, 2#32, 2#32, 0x0A#32),
      (0#32, 0#32, 0#32, 0x0A#32), (6#32, 1#32, 1#32, 0x1A#32), (6#32, 3#32, 1#32, 0x12#32)].all
      fun e => nextHas (step (withInput (.sink e.2.1) (issued e.1)))
        (fun t => t.cursor == e.2.2.1 && statusWord t == e.2.2.2 && t.lastRes == e.2.1 && t.frame.isEmpty))
      = true := by decide

/-- V-SEG-15's first half: r counts channel groups, CURSOR samples. -/
theorem test_sink_counts_channel_groups :
    nextHas (step (withInput (.sink 2#32) (run1 .nextFrame { seg 0#32 with ch := 2#32 })))
      (fun t => t.cursor == 4#32 && statusWord t == 0x0A#32) = true := by decide

/-- V-SEG-12, 13, 14. -/
theorem test_sink_fails :
    ([(3#32, 0xFFFFFFFF#32, 3#32, ErrCode.sinkFailure), (6#32, 0xFFFFFFFF#32, 1#32, .sinkFailure),
      (0#32, 4#32, 0#32, .sinkProtocol)].all
      fun e => nextHas (step (withInput (.sink e.2.1) (issued e.1)))
        (fun t => t.cursor == e.2.2.1 && t.errcode == e.2.2.2 && t.status.err && !t.status.short && !t.status.busy
          && t.lastRes == e.2.1)) = true := by decide

/-- P3's first frame: port bytes of a normalised ring, and the requested count (R120). -/
theorem test_sinkPort :
    sinkPort { endn true with
      status := { Status.reset with busy := true }, flen := 2#32, ch := 2#32
      frame := [0x7B03#16, 0x85FC#16, 0x0B72#16, 0xF48D#16] } =
    some { words := [0x7B03#16, 0x85FC#16, 0x0B72#16, 0xF48D#16]
           bytes := [0x03#8, 0x7B#8, 0xFC#8, 0x85#8, 0x72#8, 0x0B#8, 0x8D#8, 0xF4#8]
           requested := 2#32 } := by decide

/-- E9, one step of it: the second of V-SEG-20's frames carries words 3, 4, 5 and leaves CURSOR 6. -/
theorem test_play_second_frame :
    (playFullFrame (seg 3#32)).map (fun p => (p.1, p.2.cursor)) =
      some ([0x0103#16, 0x0104#16, 0x0105#16], 6#32) := by decide

/-- R82: `wait` ends when BUSY reads 0. -/
theorem test_wait :
    waitDone (run1 .rdStatus (issued 0#32)) = false ∧ waitDone (run1 .rdStatus (seg 0#32)) = true ∧
    expandScript [.wait 2, .sink 3#32] = [hostOp .rdStatus, hostOp .rdStatus, .sink 3#32] := by decide

/-! ## Memory -/

theorem test_memory_canonical :
    Memory.wf ring8 = true ∧ Memory.wf [(3, 0#16), (3, 1#16)] = false ∧ Memory.wf [(4, 0#16), (3, 1#16)] = false ∧
    Memory.write [(1, 5#16), (7, 6#16)] 4 9#16 = [(1, 5#16), (4, 9#16), (7, 6#16)] := by decide

/-! ## States that meet the hypotheses of the statements, one theorem a statement, a part for each clause -/

theorem witness_DecodeEncodeAgree :
    wellFormed (.reduceSt 0xFFFFFF#24) = true ∧ wellFormed (.wrDamp 0xFFFFFFFF#32) = true ∧
    wellFormed (.reserved 0xEFFFFFFF#32) = true ∧ wellFormed (.wrCmd 0xFF000000#32) = true := by decide

theorem witness_DecodedAccessIsItsEncoding :
    (decode (writeAccess 0x40#8 0xFFFFFFFF#32)).toOption = some (.wrLastRes 0xFFFFFFFF#32) ∧
    (decode (writeAccess 0x0C#8 0x5FFFFFFF#32)).toOption = some (.wrCmd 0x5FFFFFFF#32) := by decide

/-- First and last address of the window, and the addresses beside it. -/
theorem witness_WindowOffset :
    0x1000 % 256 = 0 ∧ (0x1000 ≤ 0x10FF ∧ 0x10FF ≤ 0x1000 + 0xFF) ∧ (0x0FFF < 0x1000 ∨ 0x1000 + 0xFF < 0x0FFF) ∧
    (0x1100 < 0x1000 ∨ 0x1000 + 0xFF < 0x1100) := by decide

theorem witness_StepRunsDecodedInstruction :
    (withOp .nextFrame (seg 0#32)).inputs = [.host (encode .nextFrame)] ∧
    (decode (encode .nextFrame)).toOption = some .nextFrame := by decide

/-- The last mapped offset completes, the first unmapped one, a sub-word and a misaligned access do not. -/
theorem witness_BusErrorExactly :
    (readAccess 0x40#8).width = .w32 ∧ (readAccess 0x40#8).off.toNat % 4 = 0 ∧ (readAccess 0x40#8).off.toNat ≤ 0x40 ∧
    0x44 ≤ (readAccess 0x44#8).off.toNat ∧ (readAccess 0x41#8).off.toNat % 4 ≠ 0 ∧
    ({ readAccess 0x00#8 with width := .w8 } : BusAccess).width ≠ .w32 ∧
    (withInput (.host (readAccess 0x44#8)) State.reset).inputs = [.host (readAccess 0x44#8)] := by decide

theorem witness_LateSinkResultDiscarded :
    Idle (withInput (.sink 3#32) (seg 0#32)) ∧ (withInput (.sink 3#32) (seg 0#32)).inputs = [.sink 3#32] := by decide

theorem witness_HangIsKept : (issued 0#32).inputs = [] ∧ (issued 0#32).status.busy = true := by decide

theorem witness_HardResetValues :
    (withInput .hardReset (issued 6#32)).inputs = [.hardReset] ∧ (issued 6#32).frame ≠ [] := by decide

theorem witness_InvHoldsAfterReset :
    ConfigLegal { capMax := 1, hostLe := false, dampReset := 0x00010000#32 } ∧
    ConfigLegal { capMax := 2 ^ 24, hostLe := true, dampReset := 0xFFFFFFFF#32 } := by decide

/-- The invariant holds idle, with a contiguous and with a spliced frame pending, and with an error recorded, and each
of these states has a next state. -/
theorem witness_StepKeepsInv :
    (Inv (withOp .nextFrame (seg 6#32)) ∧ ∃ t, step (withOp .nextFrame (seg 6#32)) = .next t) ∧
    (Inv (withInput (.sink 3#32) (issued 5#32)) ∧ ∃ t, step (withInput (.sink 3#32) (issued 5#32)) = .next t) ∧
    (Inv (withInput (.sink 1#32) (issued 6#32)) ∧ ∃ t, step (withInput (.sink 1#32) (issued 6#32)) = .next t) ∧
    Inv (withError (seg 8#32)) :=
  ⟨⟨by decide, _, rfl⟩, ⟨by decide, _, rfl⟩, ⟨by decide, _, rfl⟩, by decide⟩

theorem witness_StepKeepsRingCanonical :
    Memory.wf (withOp (.reduceSt 4#24) (seg 0#32)).ring = true ∧
    ∃ t, step (withOp (.reduceSt 4#24) (seg 0#32)) = .next t :=
  ⟨by decide, _, rfl⟩

theorem witness_CanonicalRingsEqualWhenReadsAgree :
    Memory.wf ring8 = true ∧ ∀ i, Memory.read ring8 i = Memory.read ring8 i :=
  ⟨by decide, fun _ => rfl⟩

theorem witness_ConfigurationNeverChanges :
    ∃ t, step (withOp .softReset (seg 0#32)) = .next t :=
  ⟨_, rfl⟩

/-- The three clauses: at P_CAP_MAX, an unwritten last word, a written word. -/
theorem witness_RingPortRead :
    ({ seg 0#32 with ringAddr := 0x00100000#32 } : State).cfg.capMax ≤ (0x00100000#32).toNat ∧
    ((0x000FFFFF#32).toNat < (seg 0#32).cfg.capMax ∧ Memory.read (seg 0#32).ring 0xFFFFF = none) ∧
    ((seg 0#32).ringAddr.toNat < (seg 0#32).cfg.capMax ∧
      Memory.read (seg 0#32).ring (seg 0#32).ringAddr.toNat = some 0x0100#16) := by decide

theorem witness_ErrorSignalling :
    (seg 0#32).status.err = false ∧ (withError (seg 0#32)).status.err = true := by decide

theorem witness_GeometryWrites : Idle (seg 0#32) := by decide

theorem witness_ReducerInputAndRingAddressWrites : Idle State.reset := by decide

theorem witness_NopHasNoEffect : Idle (seg 0#32) ∧ (issued 0#32).status.busy = true := by decide

theorem witness_SoftResetValues : Idle (withError (seg 5#32)) := by decide

theorem witness_BusyDropsWrites :
    (issued 6#32).status.busy = true ∧ Instr.softReset ∈ [Instr.wrCmd 0#32, .softReset] := by decide

/-- Both clauses at their boundary: NUM = DEN, NUM = DEN + 1, DEN = 0. -/
theorem witness_DampWrite :
    Idle (seg 0#32) ∧
    ((0x00050005#32).toNat / 2 ^ 16 ≠ 0 ∧ (0x00050005#32).toNat % 2 ^ 16 ≤ (0x00050005#32).toNat / 2 ^ 16) ∧
    (0x00050006#32).toNat / 2 ^ 16 < (0x00050006#32).toNat % 2 ^ 16 ∧ (0x00000000#32).toNat / 2 ^ 16 = 0 := by decide

theorem witness_RingPortWrite :
    Idle (seg 0#32) ∧
    ({ seg 0#32 with ringAddr := 0x00100000#32 } : State).cfg.capMax ≤ (0x00100000#32).toNat ∧
    ({ seg 0#32 with ringAddr := 0x000FFFFF#32 } : State).ringAddr.toNat < (seg 0#32).cfg.capMax := by decide

/-- A word for each clause. -/
theorem witness_CommandWriteRunsCommand :
    Idle (seg 0#32) ∧ decodeCmd 0x21000000#32 = .bad ∧ decodeCmd 0x00000000#32 = .nop ∧
    decodeCmd 0x10000000#32 = .configure ∧ decodeCmd 0x20000000#32 = .nextFrame ∧
    decodeCmd 0x30000000#32 = .normalize ∧ decodeCmd 0x40000000#32 = .reduce ∧
    decodeCmd 0x50FFFFFF#32 = .reduceSt 0xFFFFFF#24 ∧ decodeCmd 0xF0000000#32 = .softReset ∧
    0x20000001#32 ≠ 0x20000000#32 := by decide

/-- The first and the last reserved word. -/
theorem witness_ReservedOpcodesRaiseBadCmd :
    Idle (withInput (.host (writeAccess 0x0C#8 0x60000000#32)) (seg 0#32)) ∧
    (0x6 ≤ (0x60000000#32).toNat / 2 ^ 28 ∧ (0x60000000#32).toNat / 2 ^ 28 ≤ 0xE) ∧
    (0x6 ≤ (0xEFFFFFFF#32).toNat / 2 ^ 28 ∧ (0xEFFFFFFF#32).toNat / 2 ^ 28 ≤ 0xE) ∧
    (withInput (.host (writeAccess 0x0C#8 0x60000000#32)) (seg 0#32)).inputs =
      [.host (writeAccess 0x0C#8 0x60000000#32)] := by decide

/-- A geometry for each of the five clauses, the last with FLEN·CH = CAP = P_CAP_MAX. -/
theorem witness_ConfigureChecksAndResult :
    Idle (seg 0#32) ∧ ({ seg 0#32 with ch := 0#32 } : State).ch = 0#32 ∧
    (let s : State := { seg 0#32 with cap := 1048577#32 };
      s.cap ≠ 0#32 ∧ s.flen ≠ 0#32 ∧ s.ch ≠ 0#32 ∧ s.cfg.capMax < s.cap.toNat) ∧
    (let s : State := { seg 0#32 with cap := 9#32, ch := 2#32 };
      s.cap ≠ 0#32 ∧ s.flen ≠ 0#32 ∧ s.ch ≠ 0#32 ∧ s.cap.toNat ≤ s.cfg.capMax ∧ s.cap.toNat % s.ch.toNat ≠ 0) ∧
    (let s : State := { seg 0#32 with flen := 9#32 };
      s.cap ≠ 0#32 ∧ s.flen ≠ 0#32 ∧ s.ch ≠ 0#32 ∧ s.cap.toNat ≤ s.cfg.capMax ∧ s.cap.toNat % s.ch.toNat = 0 ∧
        s.cap.toNat < s.flen.toNat * s.ch.toNat) ∧
    (let s : State := { seg 0#32 with cap := 1048576#32, flen := 524288#32, ch := 2#32 };
      s.cap ≠ 0#32 ∧ s.flen ≠ 0#32 ∧ s.ch ≠ 0#32 ∧ s.cap.toNat ≤ s.cfg.capMax ∧ s.cap.toNat % s.ch.toNat = 0 ∧
        s.flen.toNat * s.ch.toNat ≤ s.cap.toNat) := by decide

/-- V-DRED-13's numbers. -/
theorem witness_ReduceResult :
    let s : State := { seg 0#32 with dredIn := 0x007FFF80#32 }
    Idle s ∧ s.damp.toNat / 2 ^ 16 ≠ 0 ∧ (32768 : Int) = (s.dredIn.toInt + 128) / 256 ∧
      (32767 : Int) = max (-32768) (min 32768 32767) ∧
      (29195 : Int) =
        (32767 * ((s.damp.toNat % 2 ^ 16 : Nat) : Int)).tdiv ((s.damp.toNat / 2 ^ 16 : Nat) : Int) := by decide

/-- Both clauses: IDX at P_CAP_MAX, and the last word below it. -/
theorem witness_ReduceStoreResult :
    let s : State := { seg 0#32 with dredIn := 0x007FFF80#32 }
    Idle s ∧ s.cfg.capMax ≤ (0x100000#24).toNat ∧ (0x0FFFFF#24).toNat < s.cfg.capMax ∧ s.damp.toNat / 2 ^ 16 ≠ 0 ∧
      (32768 : Int) = (s.dredIn.toInt + 128) / 256 ∧ (32767 : Int) = max (-32768) (min 32768 32767) ∧
      (29195 : Int) =
        (32767 * ((s.damp.toNat % 2 ^ 16 : Nat) : Int)).tdiv ((s.damp.toNat / 2 ^ 16 : Nat) : Int) := by decide

theorem witness_ReductionBounds :
    dampLegal 0x03E8037B#32 = true ∧ -8388608 ≤ (0xFF800000#32).toInt ∧ (0x007FFFFF#32).toInt ≤ 8388607 ∧
    8388480 ≤ (0x007FFF80#32).toInt ∧ (0x007FFF7F#32).toInt < 8388480 := by decide

theorem witness_NormalizeResult :
    (Idle { endn true with status := Status.reset } ∧
      ({ endn true with status := Status.reset } : State).status.configured = false) ∧
    (Idle (endn false) ∧ (endn false).status.configured = true ∧ (endn false).cfg.hostLe = false) ∧
    (Idle (endn true) ∧ (endn true).status.configured = true ∧ (endn true).cfg.hostLe = true) := by decide

theorem witness_NormalizeTwiceRestores :
    Idle (endn true) ∧ (endn true).status.configured = true := by decide

/-- V-SEG-2: the frame ends exactly at CAP. -/
theorem witness_ContiguousIssue :
    let s := seg 5#32
    let f := [0x0105#16, 0x0106#16, 0x0107#16]
    Idle s ∧ s.status.configured = true ∧ s.cursor.toNat + s.flen.toNat * s.ch.toNat ≤ s.cap.toNat ∧
      f.length = s.flen.toNat * s.ch.toNat ∧
      ∀ j, j < f.length → f[j]? = Memory.read s.ring (s.cursor.toNat + j) := by decide

/-- V-SEG-4, and V-SEG-3 with an empty tail. -/
theorem witness_SpliceIssue :
    (let s := seg 6#32;
      let f := [0x0106#16, 0x0107#16, 0x0100#16]
      Idle s ∧ s.status.configured = true ∧ s.cursor.toNat ≤ s.cap.toNat ∧
        s.cap.toNat < s.cursor.toNat + s.flen.toNat * s.ch.toNat ∧ 2 = s.cap.toNat - s.cursor.toNat ∧
        1 = s.flen.toNat * s.ch.toNat - 2 ∧ f.length = 2 + 1 ∧
        (∀ j, j < 2 → f[j]? = Memory.read s.ring (s.cursor.toNat + j)) ∧
        ∀ j, j < 1 → f[2 + j]? = Memory.read s.ring j) ∧
    (let s := seg 8#32;
      let f := [0x0100#16, 0x0101#16, 0x0102#16]
      s.cursor.toNat ≤ s.cap.toNat ∧ s.cap.toNat < s.cursor.toNat + s.flen.toNat * s.ch.toNat ∧
        0 = s.cap.toNat - s.cursor.toNat ∧ ∀ j, j < 3 → f[0 + j]? = Memory.read s.ring j) := by decide

/-- Unconfigured; and a ⊥ word in the tail (j = 1) and in the head (j = 2). -/
theorem witness_IssueStops :
    (Idle { seg 0#32 with status := Status.reset } ∧
      ({ seg 0#32 with status := Status.reset } : State).status.configured = false) ∧
    (let s : State := { seg 6#32 with ring := [(6, 0x0106#16)] };
      Idle s ∧ s.status.configured = true ∧ s.cursor.toNat ≤ s.cap.toNat ∧ 2 < s.flen.toNat * s.ch.toNat ∧
        (∀ j, 1 ≤ j → j ≤ 2 → Memory.read s.ring
          (if s.cursor.toNat + j < s.cap.toNat then s.cursor.toNat + j else s.cursor.toNat + j - s.cap.toNat) = none)) := by
  refine ⟨by decide, by decide, by decide, by decide, by decide, ?_⟩
  intro j h1 h2
  obtain rfl | rfl : j = 1 ∨ j = 2 := by omega
  · decide
  · decide

theorem witness_FrameIsRingWindow :
    (Inv (seg 6#32) ∧ Idle (seg 6#32) ∧ (seg 6#32).status.configured = true) ∧
    ∃ t, exec .nextFrame (seg 6#32) = .next t :=
  ⟨by decide, _, rfl⟩

theorem witness_SinkPortPresentsFrame :
    Idle (seg 0#32) ∧ (issued 0#32).status.busy = true ∧ (issued 0#32).frame[2]? = some 0x0102#16 := by decide

/-- The least and the greatest accepted count. -/
theorem witness_ContiguousCompletion :
    ([0#32, 3#32].all fun r =>
      let s := withInput (.sink r) (issued 5#32)
      decide (Inv s ∧ s.inputs = [.sink r] ∧ s.status.busy = true ∧ s.status.wrap = false ∧ 0 ≤ r.toInt ∧
        r.toInt ≤ s.flen.toNat)) = true := by decide

theorem witness_SplicedCompletion :
    ([0#32, 3#32].all fun r =>
      let s := withInput (.sink r) (issued 6#32)
      decide (s.inputs = [.sink r] ∧ s.status.busy = true ∧ s.status.wrap = true ∧ 0 ≤ r.toInt ∧
        r.toInt ≤ s.flen.toNat)) = true := by decide

/-- Both clauses at their boundary: -1 and FLEN + 1. -/
theorem witness_FailedCompletion :
    (withInput (.sink 0xFFFFFFFF#32) (issued 0#32)).inputs = [.sink 0xFFFFFFFF#32] ∧
    (issued 0#32).status.busy = true ∧ (0xFFFFFFFF#32).toInt < 0 ∧ ((issued 0#32).flen.toNat : Int) < (4#32).toInt := by
  decide

/-- With the least k. -/
theorem witness_CursorAfterFullFrames :
    Inv (seg 0#32) ∧ Idle (seg 0#32) ∧ (seg 0#32).status.configured = true ∧ (seg 0#32).cursor = 0#32 ∧
    RingLoaded (seg 0#32) ∧ 1 ≤ 1 := by decide

theorem witness_PhaseContinuity :
    Inv (seg 0#32) ∧ Idle (seg 0#32) ∧ (seg 0#32).status.configured = true ∧ (seg 0#32).cursor = 0#32 ∧
    RingLoaded (seg 0#32) := by decide

/-- The sink's answer and hard reset, each ending BUSY. -/
theorem witness_OnlySinkOrResetEndsBusy :
    (issued 0#32).status.busy = true ∧
    (∃ t, step (withInput (.sink 3#32) (issued 0#32)) = .next t ∧ t.status.busy = false) ∧
    ∃ t, step (withInput .hardReset (issued 0#32)) = .next t ∧ t.status.busy = false :=
  ⟨by decide, ⟨_, rfl, by decide⟩, _, rfl, by decide⟩

theorem witness_HostCannotDisturbPendingFrame :
    (issued 0#32).status.busy = true ∧
    (withOp (.wrRingData 5#32) (issued 0#32)).inputs = [.host (encode (.wrRingData 5#32))] ∧
    ∃ t, step (withOp (.wrRingData 5#32) (issued 0#32)) = .next t :=
  ⟨by decide, by decide, _, rfl⟩

theorem witness_ConfiguredOnlyByConfigure :
    let s := withOp .configure { seg 0#32 with status := Status.reset }
    s.status.configured = false ∧ ∃ t, step s = .next t ∧ t.status.configured = true :=
  ⟨by decide, _, rfl, by decide⟩

/-- NORMALIZE, and hard reset of a swapped ring. -/
theorem witness_SwappedOnlyByNormalize :
    (∃ t, step (withOp .normalize (endn true)) = .next t ∧ t.status.swapped ≠ (endn true).status.swapped) ∧
    (let s := withInput .hardReset { endn true with status := { Status.reset with swapped := true } };
      ∃ t, step s = .next t ∧ t.status.swapped ≠ s.status.swapped) :=
  ⟨⟨_, rfl, by decide⟩, _, rfl, by decide⟩

/-- Each of the five writers changing CURSOR. -/
theorem witness_CursorWriters :
    (∃ t, step (withOp .configure (seg 5#32)) = .next t ∧ t.cursor ≠ 5#32) ∧
    (∃ t, step (withOp .softReset (seg 5#32)) = .next t ∧ t.cursor ≠ 5#32) ∧
    (∃ t, step (withOp .nextFrame (seg 6#32)) = .next t ∧ t.cursor ≠ 6#32) ∧
    (∃ t, step (withInput (.sink 2#32) (issued 5#32)) = .next t ∧ t.cursor ≠ 5#32) ∧
    ∃ t, step (withInput .hardReset (seg 5#32)) = .next t ∧ t.cursor ≠ 5#32 :=
  ⟨⟨_, rfl, by decide⟩, ⟨_, rfl, by decide⟩, ⟨_, rfl, by decide⟩, ⟨_, rfl, by decide⟩, _, rfl, by decide⟩

/-- A second error while ERR = 1. -/
theorem witness_FirstErrorKept :
    (withError (issued 0#32)).status.err = true ∧
    ∃ t, step (withInput (.sink 4#32) (withError (issued 0#32))) = .next t ∧ t.status.err = true :=
  ⟨by decide, _, rfl, by decide⟩

/-- Each of the three ways of clearing ERR. -/
theorem witness_ErrorClearedOnlyOnRequest :
    (withError (seg 0#32)).status.err = true ∧
    (∃ t, step (withOp (.wrStatus 4#32) (withError (seg 0#32))) = .next t ∧ t.status.err = false) ∧
    (∃ t, step (withOp .softReset (withError (seg 0#32))) = .next t ∧ t.status.err = false) ∧
    ∃ t, step (withInput .hardReset (withError (seg 0#32))) = .next t ∧ t.status.err = false :=
  ⟨by decide, ⟨_, rfl, by decide⟩, ⟨_, rfl, by decide⟩, _, rfl, by decide⟩

/-- The four clauses: a word beside the one addressed, a word from CAP on, and an instruction of no ring word. -/
theorem witness_RingFrames :
    ((∃ t, exec (.wrRingData 5#32) (seg 0#32) = .next t) ∧ 1 ≠ (seg 0#32).ringAddr.toNat) ∧
    ((∃ t, exec (.reduceSt 4#24) (seg 0#32) = .next t) ∧ 5 ≠ (4#24).toNat) ∧
    ((∃ t, exec .normalize (endn true) = .next t) ∧ (endn true).cap.toNat ≤ 2) ∧
    ∃ t, exec .softReset (seg 0#32) = .next t :=
  ⟨⟨⟨_, rfl⟩, by decide⟩, ⟨⟨_, rfl⟩, by decide⟩, ⟨⟨_, rfl⟩, by decide⟩, _, rfl⟩

/-- Each of the two stops is met. -/
theorem witness_StopsAreBusErrorOrUninitRead :
    step (withInput (.host (readAccess 0x44#8)) State.reset) = .fault .busError ∧
    step (withOp .rdRingData State.reset) = .fault .uninitRead :=
  ⟨rfl, rfl⟩

end Sys2Proof.Tests
end

section
/-! PROOFS of the scope family. First what a host instruction can do, said once (`exec_next`); from it that nothing
changes the configuration. Then the block at rest, and the invariant at reset. -/

namespace Sys2Proof.Machine

variable {s t : State}

/-! ## What a host instruction can do -/

/-- The command that an instruction carries, for the instructions that are writes to CMD (R71, R77, R88). -/
def commandOf (i : Instr) : Option Command :=
  match i with
  | .nop => some .nop
  | .configure => some .configure
  | .nextFrame => some .nextFrame
  | .normalize => some .normalize
  | .reduce => some .reduce
  | .reduceSt idx => some (.reduceSt idx)
  | .softReset => some .softReset
  | .reserved _ => some .bad
  | .wrCmd v => some (decodeCmd v)
  | _ => none

theorem exec_of_commandOf {i : Instr} {c : Command} (hc : commandOf i = some c) (s : State) :
    exec i s = hostWrite (execCmd c) s := by
  cases i with
  | nop | configure | nextFrame | normalize | reduce | reduceSt | softReset | reserved | wrCmd =>
    obtain rfl := Option.some.inj hc
    rfl
  | _ => exact nomatch hc

/-- `HostEffect s i t`: how instruction `i`, run in `s`, can have come to answer `t`. -/
inductive HostEffect (s : State) : Instr → State → Prop where
  | plainRead {i : Instr} (v : Word) : HostEffect s i (respond v s)
  | ringRead {t : State} (h : readRing s = .next t) : HostEffect s .rdRingData t
  | ignored {i : Instr} : HostEffect s i s
  | statusWrite (v : Word) : HostEffect s (.wrStatus v) (writeStatus v s)
  | dropped {i : Instr} (hbusy : s.status.busy = true) : HostEffect s i (signalError .busy s)
  | command {i : Instr} {c : Command} {t : State} (hc : commandOf i = some c) (hidle : Idle s)
      (h : execCmd c s = .next t) : HostEffect s i t
  | capWrite (v : Word) (hidle : Idle s) : HostEffect s (.wrCap v) (setConfigured false { s with cap := v })
  | flenWrite (v : Word) (hidle : Idle s) : HostEffect s (.wrFlen v) (setConfigured false { s with flen := v })
  | chWrite (v : Word) (hidle : Idle s) : HostEffect s (.wrCh v) (setConfigured false { s with ch := v })
  | dampWrite {v : Word} {t : State} (hidle : Idle s) (h : writeDamp v s = .next t) : HostEffect s (.wrDamp v) t
  | dredInWrite (v : Word) (hidle : Idle s) : HostEffect s (.wrDredIn v) { s with dredIn := v }
  | ringAddrWrite (v : Word) (hidle : Idle s) : HostEffect s (.wrRingAddr v) { s with ringAddr := v }
  | ringWrite {v : Word} {t : State} (hidle : Idle s) (h : writeRing v s = .next t) : HostEffect s (.wrRingData v) t

/-- A write under the BUSY check was dropped, or its body ran (R84). -/
theorem HostEffect.of_hostWrite {i : Instr} {body : State → Result} (h : hostWrite body s = .next t)
    (hbody : Idle s → body s = .next t → HostEffect s i t) : HostEffect s i t := by
  obtain ⟨hbusy, rfl⟩ | ⟨hidle, hrun⟩ := hostWrite_next h
  · exact .dropped hbusy
  · exact hbody hidle hrun

theorem HostEffect.of_commandOf {i : Instr} {c : Command} (hc : commandOf i = some c) (h : exec i s = .next t) :
    HostEffect s i t :=
  .of_hostWrite (exec_of_commandOf hc s ▸ h) fun hidle hrun => .command hc hidle hrun

theorem HostEffect.of_readReg {i : Instr} {v : Word} (h : readReg v s = .next t) : HostEffect s i t :=
  readReg_next.1 h ▸ .plainRead v

theorem HostEffect.of_ignoreWrite {i : Instr} (h : ignoreWrite s = .next t) : HostEffect s i t :=
  ignoreWrite_next.1 h ▸ .ignored

theorem exec_next {i : Instr} (h : exec i s = .next t) : HostEffect s i t := by
  cases i with
  | nop | configure | nextFrame | normalize | reduce | reduceSt | softReset | reserved | wrCmd =>
    exact .of_commandOf rfl h
  | rdId | rdStatus | rdErrcode | rdCmd | rdCap | rdFlen | rdCh | rdCursor | rdDamp | rdDredIn | rdDredOut
  | rdRingAddr | rdLastStart | rdLastTail | rdLastHead | rdLastRes => exact .of_readReg h
  | rdRingData => exact .ringRead h
  | wrId | wrErrcode | wrCursor | wrDredOut | wrLastStart | wrLastTail | wrLastHead | wrLastRes =>
    exact .of_ignoreWrite h
  | wrStatus v => obtain rfl := Host.Outcome.next.inj h; exact .statusWrite v
  | wrCap v => exact .of_hostWrite h fun hidle hrun => Host.Outcome.next.inj hrun ▸ .capWrite v hidle
  | wrFlen v => exact .of_hostWrite h fun hidle hrun => Host.Outcome.next.inj hrun ▸ .flenWrite v hidle
  | wrCh v => exact .of_hostWrite h fun hidle hrun => Host.Outcome.next.inj hrun ▸ .chWrite v hidle
  | wrDredIn v => exact .of_hostWrite h fun hidle hrun => Host.Outcome.next.inj hrun ▸ .dredInWrite v hidle
  | wrRingAddr v => exact .of_hostWrite h fun hidle hrun => Host.Outcome.next.inj hrun ▸ .ringAddrWrite v hidle
  | wrDamp => exact .of_hostWrite h .dampWrite
  | wrRingData => exact .of_hostWrite h .ringWrite

/-! ## The configuration (R15) and the strap in STATUS (R29) -/

theorem writeStatus_cfg (v : Word) (s : State) : (writeStatus v s).cfg = s.cfg := by
  unfold writeStatus w1cSat w1cError
  split_ifs <;> rfl

theorem settleFrame_cfg (r : Word) (s : State) : (settleFrame r s).cfg = s.cfg := by
  obtain ⟨-, h⟩ | ⟨-, h⟩ | ⟨-, -, -, h⟩ | ⟨-, -, -, h⟩ := settleFrame_cases r s <;> rw [h] <;> rfl

theorem answerSink_cfg (r : Word) (s : State) : (answerSink r s).cfg = s.cfg := by
  unfold answerSink
  split
  · exact settleFrame_cfg r { s with lastRes := r }
  · rfl

theorem execCmd_cfg {c : Command} (h : execCmd c s = .next t) : t.cfg = s.cfg := by
  cases c with
  | bad | nop | reduce | softReset => obtain rfl := Host.Outcome.next.inj h; rfl
  | configure => obtain ⟨e, -, rfl⟩ | ⟨-, rfl⟩ := configureCmd_next h <;> rfl
  | nextFrame => obtain ⟨-, rfl⟩ | ⟨-, f, -, rfl⟩ := issueFrame_next h <;> rfl
  | normalize => obtain ⟨-, rfl⟩ | ⟨-, -, rfl⟩ | ⟨-, -, rfl⟩ := normalizeCmd_next h <;> rfl
  | reduceSt => obtain ⟨-, rfl⟩ | ⟨-, rfl⟩ := reduceStore_next h <;> rfl

theorem exec_cfg {i : Instr} (h : exec i s = .next t) : t.cfg = s.cfg := by
  cases exec_next h with
  | plainRead | ignored | dropped | capWrite | flenWrite | chWrite | dredInWrite | ringAddrWrite => rfl
  | statusWrite v => exact writeStatus_cfg v s
  | command _ _ hrun => exact execCmd_cfg hrun
  | ringRead hrun => obtain ⟨-, rfl⟩ | ⟨-, w, -, rfl⟩ := readRing_next hrun <;> rfl
  | dampWrite _ hrun => obtain ⟨-, rfl⟩ | ⟨-, rfl⟩ := writeDamp_next hrun <;> rfl
  | ringWrite _ hrun => obtain ⟨-, rfl⟩ | ⟨-, rfl⟩ := writeRing_next hrun <;> rfl

theorem step_cfg (h : step s = .next t) : t.cfg = s.cfg := by
  obtain ⟨-, rfl⟩ | ⟨a, rest, i, -, -, hrun⟩ | ⟨r, rest, -, rfl⟩ | ⟨rest, -, rfl⟩ := step_cases h
  · rfl
  · exact (exec_cfg hrun :)
  · exact answerSink_cfg r { s with inputs := rest }
  · rfl

theorem statusWord_bit7 (s : State) : (statusWord s).getLsbD 7 = s.cfg.hostLe := by
  simp only [statusWord, BitVec.getLsbD_setWidth, BitVec.getLsbD_append]
  simp

/-! ## The block at rest (R14, R162) -/

theorem step_of_no_inputs (h : s.inputs = []) : step s = .next s := by
  simp [step, takeInput_none.2 h]

theorem run_succ_of_step (M : Host.Core) {s u : M.State} (h : M.step s = .next u) (k : Nat) :
    M.run (k + 1) s = M.run k u := by
  rw [Host.Core.run, h]

theorem run_of_step_self (M : Host.Core) {s : M.State} (h : M.step s = .next s) (k : Nat) :
    M.run k s = .next s := by
  induction k with
  | zero => rfl
  | succ k ih => rw [run_succ_of_step M h, ih]

/-! ## The invariant at reset (R150) -/

theorem configLegal_default : ConfigLegal Config.default := by decide

theorem inv_resetWith {c : Config} (hc : ConfigLegal c) : Inv (State.resetWith c) := by
  obtain ⟨hpos, hmax, hdamp⟩ := hc
  have hring : RingOk (State.resetWith c) := ⟨Memory.wf_reset c, rfl⟩
  have hgeometry : GeometryOk (State.resetWith c) := by simp [GeometryOk, Status.reset]
  have hidle : IdleOk (State.resetWith c) := fun _ => rfl
  have hpending : PendingOk (State.resetWith c) := by simp [PendingOk, Status.reset]
  have herror : ErrorOk (State.resetWith c) := by simp [ErrorOk, Status.reset]
  have hdredOut : DredOutOk (State.resetWith c) := rfl
  exact ⟨⟨hpos, hmax, hdamp⟩, hring, hdamp, hgeometry, hidle, hpending, herror, hdredOut⟩

/-! ## The statements -/

/-- Settles O17: the configuration by the cases of a step, STATUS bit 7 by the layout of R21. -/
theorem configurationNeverChanges : Obligations.ConfigurationNeverChanges := by
  intro s t h
  have hcfg : t.cfg = s.cfg := step_cfg h
  exact ⟨hcfg, statusWord_bit7 s, hcfg ▸ statusWord_bit7 t⟩

/-- Settles O10, by induction on the number of steps (`run_of_step_self`). -/
theorem hangIsKept : Obligations.HangIsKept :=
  fun _ k h => run_of_step_self core (step_of_no_inputs h) k

/-- Settles O13: each part of the invariant at reset (`inv_resetWith`). -/
theorem invHoldsAfterReset : Obligations.InvHoldsAfterReset :=
  ⟨configLegal_default, inv_resetWith configLegal_default, fun _ => inv_resetWith⟩

end Sys2Proof.Machine
end

section
/-! PROOFS of the state family, first half: the invariant. One lemma per shared update says that it keeps `Inv`, or what
it needs to do so; then the cases of a command, of a host instruction and of a sink result are put together. -/

namespace Sys2Proof.Machine

variable {s t : State}

/-! ## The reduction fits 16 bits (R103, R104) -/

/-- A factor n/d of at most 1, rounded toward zero, keeps a value inside bounds that hold 0 between them. -/
theorem tdiv_mul_mem {c lo hi : Int} {n d : Nat} (hd : d ≠ 0) (hnd : n ≤ d) (hlo : lo ≤ c) (hhi : c ≤ hi)
    (hneg : lo ≤ 0) (hpos : 0 ≤ hi) : lo ≤ (c * n).tdiv d ∧ (c * n).tdiv d ≤ hi := by
  have bound : ∀ m : Int, 0 ≤ m → 0 ≤ (m * n).tdiv d ∧ (m * n).tdiv d ≤ m := fun m hm => by
    have hmn : 0 ≤ m * n := by positivity
    rw [Int.tdiv_eq_ediv_of_nonneg hmn]
    exact ⟨by positivity, Int.ediv_le_of_le_mul (by omega) (by gcongr)⟩
  obtain hc | hc := le_total 0 c
  · have := bound c hc
    omega
  · have hflip : (c * n).tdiv d = -(-c * n).tdiv d := by rw [← Int.neg_tdiv]; congr 1; ring
    have := bound (-c) (by omega)
    omega

theorem clampInt_mem {v lo hi : Int} (h : lo ≤ hi) : lo ≤ clampInt v lo hi ∧ clampInt v lo hi ≤ hi := by
  unfold clampInt
  split_ifs <;> omega

theorem reduceValue_mem {damp : Word} (h : dampLegal damp = true) (w : Word) :
    -32768 ≤ reduceValue damp w ∧ reduceValue damp w ≤ 32767 := by
  obtain ⟨hden, hnum⟩ : dampDen damp ≠ 0 ∧ dampNum damp ≤ dampDen damp := by simpa [dampLegal] using h
  obtain ⟨hlo, hhi⟩ := clampInt_mem (v := reduceShift w) (show (-32768 : Int) ≤ 32767 by decide)
  exact tdiv_mul_mem hden hnum hlo hhi (by decide) (by decide)

/-- A 16-bit value is the sign-extension of its low half (R39). -/
theorem signExtend_setWidth_ofInt {d : Int} (hlo : -32768 ≤ d) (hhi : d ≤ 32767) :
    ((BitVec.ofInt 32 d).setWidth 16).signExtend 32 = BitVec.ofInt 32 d := by
  apply BitVec.eq_of_toInt_eq
  rw [BitVec.toInt_signExtend, BitVec.toInt_setWidth, BitVec.toInt_ofInt]
  rw [show min 32 16 = 16 from rfl, BitVec.toNat_ofInt]
  simp only [Int.bmod_def]
  omega

/-! ## Updates that keep the invariant -/

theorem Inv.signalError {e : ErrCode} (hi : Inv s) (he : e ≠ .noError) : Inv (signalError e s) := by
  obtain ⟨hcfg, hring, hdamp, hgeo, hidle, hpend, herr, hout⟩ := hi
  have hcode : ErrorOk (Machine.signalError e s) := by
    cases h : s.status.err <;> simp_all [ErrorOk]
  exact ⟨hcfg, hring, hdamp, hgeo, hidle, hpend, hcode, hout⟩

theorem Inv.clearError (hi : Inv s) : Inv (clearError s) := by
  obtain ⟨hcfg, hring, hdamp, hgeo, hidle, hpend, -, hout⟩ := hi
  exact ⟨hcfg, hring, hdamp, hgeo, hidle, hpend, by simp [ErrorOk], hout⟩

theorem Inv.writeStatus (v : Word) (hi : Inv s) : Inv (writeStatus v s) := by
  have herr : Inv (w1cError v s) := by
    unfold w1cError
    split
    · exact hi.clearError
    · exact hi
  unfold Machine.writeStatus w1cSat
  split
  · exact (herr :)
  · exact herr

theorem Inv.setRing {m : Memory} (hi : Inv s) (hm : RingOk { s with ring := m }) : Inv { s with ring := m } := by
  obtain ⟨hcfg, -, hrest⟩ := hi
  exact ⟨hcfg, hm, hrest⟩

theorem Inv.writeWord {i : Nat} (hi : Inv s) (hlt : i < s.cfg.capMax) (w : Sample) :
    Inv { s with ring := Memory.write s.ring i w } := by
  have ⟨_, ⟨hwf, hbound⟩, _⟩ := hi
  exact hi.setRing ⟨Memory.wf_write i w hwf, Memory.bounded_write w hlt hbound⟩

theorem Inv.swapRing (hi : Inv s) (c : Nat) : Inv (flipSwapped { s with ring := Memory.swapBelow c s.ring }) := by
  have ⟨_, ⟨hwf, hbound⟩, _⟩ := hi
  exact hi.setRing ⟨Memory.wf_swapBelow c hwf, Memory.bounded_swapBelow c hbound⟩

theorem Inv.setDamp {v : Word} (hi : Inv s) (hv : dampLegal v = true) : Inv { s with damp := v } := by
  obtain ⟨hcfg, hring, -, hrest⟩ := hi
  exact ⟨hcfg, hring, hv, hrest⟩

theorem Inv.writeReduced (hi : Inv s) : Inv (writeReduced s) := by
  obtain ⟨hcfg, hring, hdamp, hgeo, hidle, hpend, herr, -⟩ := hi
  obtain ⟨hlo, hhi⟩ := reduceValue_mem hdamp s.dredIn
  exact ⟨hcfg, hring, hdamp, hgeo, hidle, hpend, herr, signExtend_setWidth_ofInt hlo hhi⟩

/-- While idle, any geometry may be stored where CONFIGURED is cleared with it (R89 to R91). -/
theorem Inv.unconfigure (hi : Inv s) (hidle : Idle s) (cap flen ch : Word) :
    Inv (setConfigured false { s with cap := cap, flen := flen, ch := ch }) := by
  obtain ⟨hcfg, hring, hdamp, -, hframe, -, herr, hout⟩ := hi
  exact ⟨hcfg, hring, hdamp, by simp [GeometryOk], hframe, by simp [PendingOk, hidle], herr, hout⟩

theorem Inv.startPass (hi : Inv s) (hidle : Idle s) (hok : configureError s = none) : Inv (startPass s) := by
  obtain ⟨hcfg, hring, hdamp, -, hframe, -, herr, hout⟩ := hi
  obtain ⟨-, hflen, hch, hmax, hmult, hframeSize⟩ := configureError_none.1 hok
  have hgeo : GeometryOk (Machine.startPass s) := fun _ =>
    ⟨hflen, hch, hframeSize, hmax, hmult, Nat.zero_le _⟩
  exact ⟨hcfg, hring, hdamp, hgeo, hframe, by simp [PendingOk, hidle], herr, hout⟩

theorem Inv.softReset (hi : Inv s) (hidle : Idle s) (h : softResetCmd s = .next t) : Inv t := by
  obtain ⟨⟨hpos, hmax, hdamp⟩, hring, -, -, hframe, -⟩ := hi
  obtain rfl := Host.Outcome.next.inj h
  exact ⟨⟨hpos, hmax, hdamp⟩, hring, hdamp, by simp [GeometryOk, softResetStatus, Status.reset],
    fun _ => hframe hidle, by simp [PendingOk, softResetStatus, Status.reset],
    by simp [ErrorOk, softResetStatus, Status.reset], rfl⟩

/-! ## The issue step (R116) -/

/-- The plan of a frame no larger than the ring: its parts make up the frame, and they end inside the ring (R117,
R118). -/
theorem framePlan_cases (hcursor : s.cursor.toNat ≤ s.cap.toNat) :
    (framePlan s = ⟨s.cursor.toNat, frameSize s, 0, false⟩ ∧ s.cursor.toNat + frameSize s ≤ s.cap.toNat) ∨
    (∃ tail head, framePlan s = ⟨s.cursor.toNat, tail, head, true⟩ ∧ tail + head = frameSize s ∧ 1 ≤ head) := by
  unfold framePlan
  split_ifs with h
  · exact .inl ⟨rfl, h⟩
  · exact .inr ⟨_, _, rfl, by omega, by omega⟩

theorem gatherFrame_length {m : Memory} {p : FramePlan} {f : List Sample} (h : gatherFrame m p = some f) :
    f.length = p.tail + p.head := by
  obtain ⟨a, b, ha, hb, rfl⟩ := gatherFrame_eq_some h
  obtain ⟨hla, -⟩ := (Memory.gather_eq_some_iff ..).1 ha
  obtain ⟨hlb, -⟩ := (Memory.gather_eq_some_iff ..).1 hb
  rw [List.length_append, hla, hlb]

theorem Inv.presentFrame {f : List Sample} (hi : Inv s) (hconf : s.status.configured = true)
    (hf : gatherFrame s.ring (framePlan s) = some f) : Inv (presentFrame (framePlan s) f s) := by
  obtain ⟨⟨hpos, hmax, hreset⟩, hring, hdamp, hgeo, -, -, herr, hout⟩ := hi
  obtain ⟨hflen, hch, hsize, hcap, hmult, hcursor⟩ := hgeo hconf
  have hlen := gatherFrame_length hf
  have hidle : IdleOk (Machine.presentFrame (framePlan s) f s) := by simp [IdleOk]
  obtain ⟨hplan, hend⟩ | ⟨tail, head, hplan, hparts, hhead⟩ := framePlan_cases hcursor <;>
    rw [hplan] at hlen hidle ⊢
  · have htail : (BitVec.ofNat 32 (frameSize s)).toNat = frameSize s := Nat.mod_eq_of_lt (by omega)
    refine ⟨⟨hpos, hmax, hreset⟩, hring, hdamp, fun _ => ⟨hflen, hch, hsize, hcap, hmult, hcursor⟩, hidle, fun _ => ?_,
      herr, hout⟩
    exact ⟨hconf, hlen, htail, fun _ => ⟨rfl, hend⟩, nofun⟩
  · have htail : (BitVec.ofNat 32 tail).toNat = tail := Nat.mod_eq_of_lt (by omega)
    have hheadNat : (BitVec.ofNat 32 head).toNat = head := Nat.mod_eq_of_lt (by omega)
    have hheadCap : (BitVec.ofNat 32 head).toNat ≤ s.cap.toNat := by omega
    have hsum : (BitVec.ofNat 32 tail).toNat + (BitVec.ofNat 32 head).toNat = frameSize s := by omega
    refine ⟨⟨hpos, hmax, hreset⟩, hring, hdamp, fun _ => ⟨hflen, hch, hsize, hcap, hmult, hheadCap⟩, hidle, fun _ => ?_,
      herr, hout⟩
    exact ⟨hconf, hlen.trans hparts, hsum, nofun, fun _ => ⟨rfl, hheadNat.symm ▸ hhead⟩⟩

/-! ## The completion step (R122) -/

/-- The pending frame ended: LAST_RES, SHORT and CURSOR written, FRAME emptied, BUSY cleared. -/
def endFrame (r : Word) (short : Bool) (cursor : Word) (s : State) : State :=
  { s with
    cursor := cursor
    lastRes := r
    frame := []
    status := { s.status with short := short, busy := false } }

/-- The outcomes of a sink result: the frame ends with an error and CURSOR unmoved (R125, R126), with CURSOR unmoved
after a splice (R124), or with CURSOR moved on after a contiguous frame (R123). -/
theorem complete_cases (r : Word) (s : State) :
    (∃ e, e ≠ .noError ∧ complete r s = signalError e (endFrame r false s.cursor s)) ∨
    (s.status.wrap = true ∧ complete r s = endFrame r (isShort r s.flen) s.cursor s) ∨
    (s.status.wrap = false ∧ 0 ≤ r.toInt ∧ r.toInt ≤ s.flen.toNat ∧
      complete r s =
        endFrame r (isShort r s.flen) (BitVec.ofNat 32 (s.cursor.toNat + r.toNat * s.ch.toNat)) s) := by
  unfold complete
  obtain ⟨-, h⟩ | ⟨-, h⟩ | ⟨-, -, hwrap, h⟩ | ⟨hr0, hr, hwrap, h⟩ := settleFrame_cases r { s with lastRes := r } <;>
    rw [h]
  · exact .inl ⟨.sinkFailure, nofun, rfl⟩
  · exact .inl ⟨.sinkProtocol, nofun, rfl⟩
  · exact .inr (.inl ⟨hwrap, rfl⟩)
  · exact .inr (.inr ⟨hwrap, hr0, hr, rfl⟩)

theorem answerSink_cases (r : Word) (s : State) :
    (Idle s ∧ answerSink r s = s) ∨ (s.status.busy = true ∧ answerSink r s = complete r s) := by
  unfold answerSink
  split
  · exact .inr ⟨‹_›, rfl⟩
  · exact .inl ⟨Bool.eq_false_of_not_eq_true ‹_›, rfl⟩

theorem Inv.endFrame (r : Word) (short : Bool) {c : Word} (hi : Inv s)
    (hc : s.status.configured = true → c.toNat ≤ s.cap.toNat) : Inv (endFrame r short c s) := by
  obtain ⟨hcfg, hring, hdamp, hgeo, -, -, herr, hout⟩ := hi
  have hgeo' : GeometryOk (Machine.endFrame r short c s) := fun hconf => by
    obtain ⟨hflen, hch, hsize, hcap, hmult, -⟩ := hgeo hconf
    exact ⟨hflen, hch, hsize, hcap, hmult, hc hconf⟩
  exact ⟨hcfg, hring, hdamp, hgeo', fun _ => rfl, nofun, herr, hout⟩

/-- An accepted count takes CURSOR no further than the end of a contiguous frame (R123, R127). -/
theorem consumed_le_frameSize {r : Word} (hr0 : 0 ≤ r.toInt) (hr : r.toInt ≤ s.flen.toNat) :
    r.toNat * s.ch.toNat ≤ frameSize s := by
  have hle : r.toNat ≤ s.flen.toNat := by
    rw [BitVec.toInt_eq_toNat_cond] at hr0 hr
    split_ifs at hr0 hr <;> omega
  exact Nat.mul_le_mul_right _ hle

theorem Inv.complete (r : Word) (hi : Inv s) (hbusy : s.status.busy = true) : Inv (complete r s) := by
  have ⟨_, _, _, hgeo, _, hpend, _⟩ := hi
  have hcursor : s.status.configured = true → s.cursor.toNat ≤ s.cap.toNat := fun hconf => by
    obtain ⟨-, -, -, -, -, h⟩ := hgeo hconf
    exact h
  obtain ⟨e, he, h⟩ | ⟨-, h⟩ | ⟨hwrap, hr0, hr, h⟩ := complete_cases r s <;> rw [h]
  · exact (hi.endFrame r false hcursor).signalError he
  · exact hi.endFrame r _ hcursor
  · obtain ⟨-, -, -, hcontiguous, -⟩ := hpend hbusy
    obtain ⟨-, hend⟩ := hcontiguous hwrap
    have hconsumed := consumed_le_frameSize hr0 hr
    refine hi.endFrame r _ fun _ => (Nat.mod_le _ _).trans ?_
    omega

/-! ## Every step keeps the invariant -/

theorem Inv.execCmd {c : Command} (hi : Inv s) (hidle : Idle s) (h : execCmd c s = .next t) : Inv t := by
  cases c with
  | bad => exact Host.Outcome.next.inj h ▸ hi.signalError nofun
  | nop => exact Host.Outcome.next.inj h ▸ hi
  | reduce => exact Host.Outcome.next.inj h ▸ hi.writeReduced
  | softReset => exact hi.softReset hidle h
  | configure =>
    obtain ⟨e, he, rfl⟩ | ⟨hok, rfl⟩ := configureCmd_next h
    · exact (hi.unconfigure hidle s.cap s.flen s.ch).signalError (configureError_ne_noError he)
    · exact hi.startPass hidle hok
  | nextFrame =>
    obtain ⟨-, rfl⟩ | ⟨hconf, f, hf, rfl⟩ := issueFrame_next h
    · exact hi.signalError nofun
    · exact hi.presentFrame hconf hf
  | normalize =>
    obtain ⟨-, rfl⟩ | ⟨-, -, rfl⟩ | ⟨-, -, rfl⟩ := normalizeCmd_next h
    · exact hi.signalError nofun
    · exact hi.swapRing _
    · exact hi
  | reduceSt =>
    obtain ⟨-, rfl⟩ | ⟨hlt, rfl⟩ := reduceStore_next h
    · exact hi.signalError nofun
    · exact hi.writeReduced.writeWord hlt _

theorem Inv.exec {i : Instr} (hi : Inv s) (h : exec i s = .next t) : Inv t := by
  cases exec_next h with
  | plainRead | ignored | dredInWrite | ringAddrWrite => exact hi
  | statusWrite v => exact hi.writeStatus v
  | dropped => exact hi.signalError nofun
  | command _ hidle hrun => exact hi.execCmd hidle hrun
  | capWrite v hidle => exact hi.unconfigure hidle v s.flen s.ch
  | flenWrite v hidle => exact hi.unconfigure hidle s.cap v s.ch
  | chWrite v hidle => exact hi.unconfigure hidle s.cap s.flen v
  | ringRead hrun =>
    obtain ⟨-, rfl⟩ | ⟨-, w, -, rfl⟩ := readRing_next hrun
    · exact (hi.signalError (e := .ringRange) nofun :)
    · exact hi
  | dampWrite _ hrun =>
    obtain ⟨hlegal, rfl⟩ | ⟨-, rfl⟩ := writeDamp_next hrun
    · exact hi.setDamp hlegal
    · exact hi.signalError nofun
  | ringWrite _ hrun =>
    obtain ⟨-, rfl⟩ | ⟨hlt, rfl⟩ := writeRing_next hrun
    · exact hi.signalError nofun
    · exact (hi.writeWord hlt _ :)

theorem Inv.answerSink (r : Word) (hi : Inv s) : Inv (answerSink r s) := by
  obtain ⟨-, h⟩ | ⟨hbusy, h⟩ := answerSink_cases r s <;> rw [h]
  · exact hi
  · exact hi.complete r hbusy

/-- Settles O14: nothing happens, a host instruction runs, the sink answers, or hard reset. -/
theorem stepKeepsInv : Obligations.StepKeepsInv := by
  intro s t hi h
  obtain ⟨-, rfl⟩ | ⟨a, rest, i, -, -, hrun⟩ | ⟨r, rest, -, rfl⟩ | ⟨rest, -, rfl⟩ := step_cases h
  · exact hi
  · exact Inv.exec (s := { s with inputs := rest }) hi hrun
  · exact Inv.answerSink r (s := { s with inputs := rest }) hi
  · obtain ⟨hcfg, -⟩ := hi
    exact inv_resetWith hcfg

end Sys2Proof.Machine
end

section
/-! PROOFS of the state family, second half: the rules of the whole machine on BUSY, CONFIGURED, SWAPPED, CURSOR and
ERR. First which accesses carry a command; then what a step does to these registers, said once (`step_effect`); then
each rule from its cases. -/

namespace Sys2Proof.Machine

variable {s t : State}

/-! ## The accesses that carry a command (R71, R75) -/

theorem cmdWord_fields (w : Word) : cmdWord (cmdOpc w) (cmdRsv w) (cmdArg w) = w := by
  unfold cmdWord cmdOpc cmdRsv cmdArg
  rw [BitVec.extractLsb'_append_extractLsb'_eq_extractLsb' (show 28 = 24 + 4 from rfl),
    BitVec.extractLsb'_append_extractLsb'_eq_extractLsb' (show 24 = 0 + 24 from rfl)]
  exact BitVec.extractLsb'_eq_self

/-- The word of each command that R75 matches whole. -/
def plainWord (c : Command) : Option Word :=
  match c with
  | .nop => some 0x00000000#32
  | .configure => some 0x10000000#32
  | .nextFrame => some 0x20000000#32
  | .normalize => some 0x30000000#32
  | .reduce => some 0x40000000#32
  | .softReset => some 0xF0000000#32
  | .bad => none
  | .reduceSt _ => none

theorem eq_plainWord {w u : Word} (h : plainWord (decodeCmd w) = some u) : w = u := by
  unfold decodeCmd at h
  split_ifs at h with hrsv hopc harg
  · exact nomatch h
  · exact nomatch h
  · exact nomatch h
  · have hw : w = cmdWord (cmdOpc w) 0#4 0#24 := by
      rw [← not_not.1 hrsv, ← not_not.1 harg, cmdWord_fields]
    have hword (n : Nat) (hn : (cmdOpc w).toNat = n) : w = cmdWord (BitVec.ofNat 4 n) 0#4 0#24 := by
      rw [← hn, BitVec.ofNat_toNat, BitVec.setWidth_eq]
      exact hw
    split at h
    case h_7 => exact nomatch h
    all_goals
      rename_i hn
      exact (hword _ hn).trans (Option.some.inj h)

theorem decodeCmd_of_isReservedOpc {w : Word} (h : isReservedOpc (cmdOpc w) = true) : decodeCmd w = .bad := by
  obtain ⟨hlo, hhi⟩ : 0x6 ≤ (cmdOpc w).toNat ∧ (cmdOpc w).toNat ≤ 0xE := by simpa [isReservedOpc] using h
  have hopc : cmdOpc w ≠ 0x5#4 := fun h5 => by simp [h5] at hlo
  unfold decodeCmd
  rw [if_neg hopc]
  split_ifs
  · rfl
  · rfl
  · split
    case h_7 => rfl
    all_goals omega

theorem commandOf_decodeCmdWrite (v : Word) : commandOf (decodeCmdWrite v) = some (decodeCmd v) := by
  unfold decodeCmdWrite
  split
  · rw [decodeCmd_of_isReservedOpc ‹_›]
    rfl
  · cases h : decodeCmd v with
    | bad => exact congrArg some h
    | _ => rfl

theorem decode_ok {a : BusAccess} {i : Instr} (h : decode a = .ok i) :
    (∃ off, a = readAccess off ∧ decodeRead off.toNat = .ok i) ∨
    (∃ off v, a = writeAccess off v ∧ decodeWrite off.toNat v = .ok i) := by
  obtain ⟨op, off, width⟩ := a
  cases width with
  | w8 | w16 => exact nomatch h
  | w32 =>
    simp only [decode] at h
    split_ifs at h
    cases op with
    | read => exact .inl ⟨off, rfl, h⟩
    | write v => exact .inr ⟨off, v, rfl, h⟩

/-- No read is a command or writes a register. -/
theorem decodeRead_ok {n : Nat} {i : Instr} (h : decodeRead n = .ok i) :
    commandOf i = none ∧ ∀ v, i ≠ .wrStatus v := by
  unfold decodeRead at h
  split at h <;> cases h <;> exact ⟨rfl, nofun⟩

/-- Commands are written to CMD, and the word is the command's (R71, R88). -/
theorem decodeWrite_command {n : Nat} {v : Word} {i : Instr} {c : Command} (h : decodeWrite n v = .ok i)
    (hc : commandOf i = some c) : n = 0x0C ∧ decodeCmd v = c := by
  unfold decodeWrite at h
  split at h
  case h_4 =>
    obtain rfl := Except.ok.inj h
    rw [commandOf_decodeCmdWrite] at hc
    exact ⟨rfl, Option.some.inj hc⟩
  case h_18 => exact nomatch h
  all_goals cases h; exact nomatch hc

theorem decodeWrite_wrStatus {n : Nat} {u v : Word} (h : decodeWrite n u = .ok (.wrStatus v)) : n = 0x04 ∧ u = v := by
  have hnot (w : Word) : decodeCmdWrite w ≠ .wrStatus v := fun hw => by
    have := commandOf_decodeCmdWrite w
    rw [hw] at this
    exact nomatch this
  unfold decodeWrite at h
  split at h
  case h_2 => cases h; exact ⟨rfl, rfl⟩
  case h_4 => exact absurd (Except.ok.inj h) (hnot u)
  all_goals exact nomatch h

theorem decode_command {a : BusAccess} {i : Instr} {c : Command} (h : decode a = .ok i)
    (hc : commandOf i = some c) : ∃ w, a = writeAccess 0x0C#8 w ∧ decodeCmd w = c := by
  obtain ⟨off, -, hread⟩ | ⟨off, w, rfl, hwrite⟩ := decode_ok h
  · obtain ⟨hnone, -⟩ := decodeRead_ok hread
    exact nomatch hnone.symm.trans hc
  · obtain ⟨hoff, hw⟩ := decodeWrite_command hwrite hc
    obtain rfl : off = 0x0C#8 := BitVec.eq_of_toNat_eq hoff
    exact ⟨w, rfl, hw⟩

theorem decode_plainCommand {a : BusAccess} {i : Instr} {c : Command} {w : Word} (h : decode a = .ok i)
    (hc : commandOf i = some c) (hw : plainWord c = some w) : a = writeAccess 0x0C#8 w := by
  obtain ⟨u, rfl, rfl⟩ := decode_command h hc
  rw [eq_plainWord hw]

theorem decode_wrStatus {a : BusAccess} {v : Word} (h : decode a = .ok (.wrStatus v)) :
    a = writeAccess 0x04#8 v := by
  obtain ⟨off, -, hread⟩ | ⟨off, w, rfl, hwrite⟩ := decode_ok h
  · obtain ⟨-, hne⟩ := decodeRead_ok hread
    exact absurd rfl (hne v)
  · obtain ⟨hoff, rfl⟩ := decodeWrite_wrStatus hwrite
    obtain rfl : off = 0x04#8 := BitVec.eq_of_toNat_eq hoff
    rfl

/-! ## What a step does to BUSY, CONFIGURED, SWAPPED, CURSOR and ERR -/

/-- BUSY, SWAPPED and CURSOR as before, CONFIGURED not set and ERR not cleared. -/
structure FlagsKept (s t : State) : Prop where
  busy : t.status.busy = s.status.busy
  swapped : t.status.swapped = s.status.swapped
  cursor : t.cursor = s.cursor
  configured : t.status.configured = true → s.status.configured = true
  err : s.status.err = true → t.status.err = true

theorem FlagsKept.of_eq (hstatus : t.status = s.status) (hcursor : t.cursor = s.cursor) : FlagsKept s t :=
  ⟨by rw [hstatus], by rw [hstatus], hcursor, by rw [hstatus]; exact id, by rw [hstatus]; exact id⟩

theorem FlagsKept.signalError (e : ErrCode) (s : State) : FlagsKept s (signalError e s) :=
  ⟨rfl, rfl, rfl, id, fun _ => rfl⟩

theorem FlagsKept.setConfigured_false (s : State) : FlagsKept s (setConfigured false s) :=
  ⟨rfl, rfl, rfl, nofun, id⟩

theorem FlagsKept.trans {u : State} (h : FlagsKept s t) (h' : FlagsKept t u) : FlagsKept s u :=
  ⟨h'.busy.trans h.busy, h'.swapped.trans h.swapped, h'.cursor.trans h.cursor,
    fun hu => h.configured (h'.configured hu), fun hs => h'.err (h.err hs)⟩

/-- `StepEffect s t`: how a step from `s` can have come to answer `t`, with the input it took where more than the
registers of `FlagsKept` may have changed. -/
inductive StepEffect (s : State) : State → Prop where
  | kept {t : State} (h : FlagsKept s t) : StepEffect s t
  | statusWrite {rest : List Input} (v : Word) (hin : s.inputs = .host (writeAccess 0x04#8 v) :: rest) :
      StepEffect s (writeStatus v { s with inputs := rest })
  | configure {rest : List Input} (hin : s.inputs = .host (writeAccess 0x0C#8 0x10000000#32) :: rest)
      (hidle : Idle s) (hok : configureError s = none) : StepEffect s (startPass { s with inputs := rest })
  | issue {rest : List Input} (f : List Sample)
      (hin : s.inputs = .host (writeAccess 0x0C#8 0x20000000#32) :: rest) (hconf : s.status.configured = true) :
      StepEffect s (presentFrame (framePlan s) f { s with inputs := rest })
  | swap {rest : List Input} (hin : s.inputs = .host (writeAccess 0x0C#8 0x30000000#32) :: rest) (hidle : Idle s)
      (hconf : s.status.configured = true) (hle : s.cfg.hostLe = true) :
      StepEffect s (flipSwapped { s with inputs := rest, ring := Memory.swapBelow s.cap.toNat s.ring })
  | softReset {rest : List Input} {t : State} (hin : s.inputs = .host (writeAccess 0x0C#8 0xF0000000#32) :: rest)
      (hidle : Idle s) (h : softResetCmd { s with inputs := rest } = .next t) : StepEffect s t
  | completion {rest : List Input} (r : Word) (hin : s.inputs = .sink r :: rest) (hbusy : s.status.busy = true) :
      StepEffect s (complete r { s with inputs := rest })
  | hardReset {rest : List Input} (hin : s.inputs = .hardReset :: rest) :
      StepEffect s (hardReset { s with inputs := rest })

theorem flagsKept_takeInput (s : State) (rest : List Input) : FlagsKept s { s with inputs := rest } :=
  .of_eq rfl rfl

/-- What changed no flag in the state from which the input has been taken changed none at all. -/
theorem StepEffect.of_kept (rest : List Input) (h : FlagsKept { s with inputs := rest } t) : StepEffect s t :=
  .kept ((flagsKept_takeInput s rest).trans h)

theorem execCmd_effect {a : BusAccess} {rest : List Input} {i : Instr} {c : Command}
    (hin : s.inputs = .host a :: rest) (hi : decode a = .ok i) (hc : commandOf i = some c) (hidle : Idle s)
    (h : execCmd c { s with inputs := rest } = .next t) : StepEffect s t := by
  cases c with
  | bad => exact Host.Outcome.next.inj h ▸ .of_kept rest (.signalError _ _)
  | nop => exact Host.Outcome.next.inj h ▸ .of_kept rest (.of_eq rfl rfl)
  | reduce => exact Host.Outcome.next.inj h ▸ .of_kept rest ⟨rfl, rfl, rfl, id, id⟩
  | reduceSt =>
    obtain ⟨-, rfl⟩ | ⟨-, rfl⟩ := reduceStore_next h
    · exact .of_kept rest (.signalError _ _)
    · exact .of_kept rest ⟨rfl, rfl, rfl, id, id⟩
  | configure =>
    obtain rfl := decode_plainCommand hi hc rfl
    obtain ⟨e, -, rfl⟩ | ⟨hok, rfl⟩ := configureCmd_next h
    · exact .of_kept rest ((FlagsKept.setConfigured_false _).trans (.signalError _ _))
    · exact .configure hin hidle hok
  | nextFrame =>
    obtain rfl := decode_plainCommand hi hc rfl
    obtain ⟨-, rfl⟩ | ⟨hconf, f, -, rfl⟩ := issueFrame_next h
    · exact .of_kept rest (.signalError _ _)
    · exact .issue f hin hconf
  | normalize =>
    obtain rfl := decode_plainCommand hi hc rfl
    obtain ⟨-, rfl⟩ | ⟨hconf, hle, rfl⟩ | ⟨-, -, rfl⟩ := normalizeCmd_next h
    · exact .of_kept rest (.signalError _ _)
    · exact .swap hin hidle hconf hle
    · exact .of_kept rest (.of_eq rfl rfl)
  | softReset =>
    obtain rfl := decode_plainCommand hi hc rfl
    exact .softReset hin hidle h

theorem exec_effect {a : BusAccess} {rest : List Input} {i : Instr} (hin : s.inputs = .host a :: rest)
    (hi : decode a = .ok i) (h : exec i { s with inputs := rest } = .next t) : StepEffect s t := by
  cases exec_next h with
  | plainRead | ignored | dredInWrite | ringAddrWrite => exact .of_kept rest (.of_eq rfl rfl)
  | dropped => exact .of_kept rest (.signalError _ _)
  | capWrite | flenWrite | chWrite => exact .of_kept rest ⟨rfl, rfl, rfl, nofun, id⟩
  | statusWrite v => exact .statusWrite v (decode_wrStatus hi ▸ hin)
  | command hc hidle hrun => exact execCmd_effect hin hi hc hidle hrun
  | ringRead hrun =>
    obtain ⟨-, rfl⟩ | ⟨-, w, -, rfl⟩ := readRing_next hrun
    · exact .of_kept rest ((FlagsKept.signalError .ringRange _).trans (.of_eq rfl rfl))
    · exact .of_kept rest (.of_eq rfl rfl)
  | dampWrite _ hrun =>
    obtain ⟨-, rfl⟩ | ⟨-, rfl⟩ := writeDamp_next hrun
    · exact .of_kept rest (.of_eq rfl rfl)
    · exact .of_kept rest (.signalError _ _)
  | ringWrite _ hrun =>
    obtain ⟨-, rfl⟩ | ⟨-, rfl⟩ := writeRing_next hrun
    · exact .of_kept rest (.signalError _ _)
    · exact .of_kept rest (.of_eq rfl rfl)

theorem step_effect (h : step s = .next t) : StepEffect s t := by
  obtain ⟨-, rfl⟩ | ⟨a, rest, i, hin, hi, hrun⟩ | ⟨r, rest, hin, rfl⟩ | ⟨rest, hin, rfl⟩ := step_cases h
  · exact .kept (.of_eq rfl rfl)
  · exact exec_effect hin hi hrun
  · obtain ⟨-, heq⟩ | ⟨hbusy, heq⟩ := answerSink_cases r { s with inputs := rest } <;> rw [heq]
    · exact .of_kept rest (.of_eq rfl rfl)
    · exact .completion r hin hbusy
  · exact .hardReset hin

/-! ## What the operations of `StepEffect` leave of these registers -/

/-- A STATUS write leaves CURSOR and every flag but ERR and SAT; ERR it clears where bit 2 asks for it, ERRCODE with it
(R87). -/
theorem writeStatus_flags (v : Word) (s : State) :
    (writeStatus v s).cursor = s.cursor ∧
    (writeStatus v s).status =
      { s.status with err := s.status.err && !v.getLsbD 2, sat := s.status.sat && !v.getLsbD 5 } ∧
    (v.getLsbD 2 = true → (writeStatus v s).errcode = .noError) := by
  unfold writeStatus w1cSat w1cError
  cases v.getLsbD 2 <;> cases v.getLsbD 5 <;> simp

theorem softResetCmd_flags (h : softResetCmd s = .next t) :
    t.status = softResetStatus s.status ∧ t.errcode = .noError ∧ t.cursor = 0#32 := by
  obtain rfl := Host.Outcome.next.inj h
  exact ⟨rfl, rfl, rfl⟩

/-- A sink result leaves CONFIGURED and SWAPPED, does not clear ERR, and after a splice leaves CURSOR (R122, R124). -/
theorem complete_flags (r : Word) (s : State) :
    (complete r s).status.configured = s.status.configured ∧ (complete r s).status.swapped = s.status.swapped ∧
    (s.status.err = true → (complete r s).status.err = true) ∧
    (s.status.wrap = true → (complete r s).cursor = s.cursor) := by
  obtain ⟨e, -, h⟩ | ⟨-, h⟩ | ⟨hwrap, -, -, h⟩ := complete_cases r s <;> rw [h]
  · exact ⟨rfl, rfl, fun _ => rfl, fun _ => rfl⟩
  · exact ⟨rfl, rfl, id, fun _ => rfl⟩
  · exact ⟨rfl, rfl, id, fun hsplice => nomatch hwrap.symm.trans hsplice⟩

/-- The issue step moves CURSOR only in a splice, to LAST_HEAD (R117, R118). -/
theorem presentFrame_cursor_cases (p : FramePlan) (f : List Sample) (s : State) :
    (presentFrame p f s).cursor = s.cursor ∨
    ((presentFrame p f s).status.wrap = true ∧ (presentFrame p f s).cursor = (presentFrame p f s).lastHead) := by
  cases hwrap : p.wrap <;> simp [hwrap]

/-! ## The rules -/

/-- Settles O51: no other case of `step_effect` starts busy and ends idle. -/
theorem onlySinkOrResetEndsBusy : Obligations.OnlySinkOrResetEndsBusy := by
  intro s t hbusy h hdone
  have idleAbsurd (hidle : Idle s) : False := nomatch hbusy.symm.trans hidle
  cases step_effect h with
  | kept hkept => exact nomatch hdone.symm.trans (hkept.busy.trans hbusy)
  | @statusWrite rest v _ =>
    obtain ⟨-, hstatus, -⟩ := writeStatus_flags v { s with inputs := rest }
    rw [hstatus] at hdone
    exact nomatch hdone.symm.trans hbusy
  | issue => exact nomatch hdone
  | configure _ hidle | swap _ hidle | softReset _ hidle => exact (idleAbsurd hidle).elim
  | completion r hin => exact .inl ⟨r, _, hin⟩
  | hardReset hin => exact .inr ⟨_, hin⟩

/-- Settles O53: only `startPass` sets CONFIGURED, under the checks of `configureError_none`. -/
theorem configuredOnlyByConfigure : Obligations.ConfiguredOnlyByConfigure := by
  intro s t hclear h hset
  have setAbsurd (hs : s.status.configured = true) : False := nomatch hclear.symm.trans hs
  cases step_effect h with
  | kept hkept => exact (setAbsurd (hkept.configured hset)).elim
  | @statusWrite rest v _ =>
    obtain ⟨-, hstatus, -⟩ := writeStatus_flags v { s with inputs := rest }
    rw [hstatus] at hset
    exact (setAbsurd hset).elim
  | configure hin hidle hok =>
    obtain ⟨hcap, hflen, hch, hmax, hmult, hsize⟩ := configureError_none.1 hok
    have ne_zero {w : Word} (hw : 1 ≤ w.toNat) : w ≠ 0#32 := fun h0 => by simp [h0] at hw
    exact ⟨_, hin, hidle, ne_zero hcap, ne_zero hflen, ne_zero hch, hmax, hmult, hsize⟩
  | issue _ _ hconf | swap _ _ hconf => exact (setAbsurd hconf).elim
  | softReset _ _ hrun =>
    obtain ⟨hstatus, -⟩ := softResetCmd_flags hrun
    rw [hstatus] at hset
    exact nomatch hset
  | @completion rest r _ _ =>
    obtain ⟨hconf, -⟩ := complete_flags r { s with inputs := rest }
    exact (setAbsurd (hconf.symm.trans hset)).elim
  | hardReset => exact nomatch hset

/-- Settles O54: SOFT_RESET and a sink result keep SWAPPED too. -/
theorem swappedOnlyByNormalize : Obligations.SwappedOnlyByNormalize := by
  intro s t h hne
  cases step_effect h with
  | kept hkept => exact absurd hkept.swapped hne
  | @statusWrite rest v _ =>
    obtain ⟨-, hstatus, -⟩ := writeStatus_flags v { s with inputs := rest }
    rw [hstatus] at hne
    exact absurd rfl hne
  | configure | issue => exact absurd rfl hne
  | swap hin hidle hconf hle => exact .inl ⟨_, hin, hidle, hconf, hle⟩
  | softReset _ _ hrun =>
    obtain ⟨hstatus, -⟩ := softResetCmd_flags hrun
    rw [hstatus] at hne
    exact absurd rfl hne
  | @completion rest r _ _ =>
    obtain ⟨-, hswapped, -⟩ := complete_flags r { s with inputs := rest }
    exact absurd hswapped hne
  | hardReset hin => exact .inr ⟨_, hin⟩

/-- Settles O55: each writer is a case of `step_effect`. -/
theorem cursorWriters : Obligations.CursorWriters := by
  intro s t h hne
  cases step_effect h with
  | kept hkept => exact absurd hkept.cursor hne
  | @statusWrite rest v _ =>
    obtain ⟨hcursor, -⟩ := writeStatus_flags v { s with inputs := rest }
    exact absurd hcursor hne
  | configure hin => exact .inl ⟨_, hin, rfl⟩
  | softReset hin _ hrun =>
    obtain ⟨-, -, hcursor⟩ := softResetCmd_flags hrun
    exact .inr (.inl ⟨_, hin, hcursor⟩)
  | @issue rest f hin _ =>
    obtain hcursor | ⟨hwrap, hcursor⟩ := presentFrame_cursor_cases (framePlan s) f { s with inputs := rest }
    · exact absurd hcursor hne
    · exact .inr (.inr (.inl ⟨_, hin, hwrap, hcursor⟩))
  | swap => exact absurd rfl hne
  | @completion rest r hin hbusy =>
    obtain ⟨-, -, -, hsplice⟩ := complete_flags r { s with inputs := rest }
    have hwrap : s.status.wrap = false := Bool.eq_false_of_not_eq_true fun hw => hne (hsplice hw)
    exact .inr (.inr (.inr (.inl ⟨r, _, hin, hbusy, hwrap⟩)))
  | hardReset hin => exact .inr (.inr (.inr (.inr ⟨_, hin, rfl⟩)))

/-- Settles O57: each request is a case of `step_effect`. -/
theorem errorClearedOnlyOnRequest : Obligations.ErrorClearedOnlyOnRequest := by
  intro s t herr h hclear
  cases step_effect h with
  | kept hkept => exact nomatch hclear.symm.trans (hkept.err herr)
  | @statusWrite rest v hin =>
    obtain ⟨-, hstatus, hcode⟩ := writeStatus_flags v { s with inputs := rest }
    have hbit : v.getLsbD 2 = true := by simpa [hstatus, herr] using hclear
    exact ⟨hcode hbit, .inl ⟨v, _, hin, hbit⟩⟩
  | configure | issue | swap => exact nomatch hclear.symm.trans herr
  | softReset hin hidle hrun =>
    obtain ⟨-, hcode, -⟩ := softResetCmd_flags hrun
    exact ⟨hcode, .inr (.inl ⟨_, hin, hidle⟩)⟩
  | @completion rest r _ _ =>
    obtain ⟨-, -, hkeep, -⟩ := complete_flags r { s with inputs := rest }
    exact nomatch hclear.symm.trans (hkeep herr)
  | hardReset hin => exact ⟨rfl, .inr (.inr ⟨_, hin⟩)⟩

/-! ## Fixed values -/

/-- Settles O1: each word through the decoder. -/
theorem sampleWordsDecode : Obligations.SampleWordsDecode :=
  ⟨rfl, rfl, rfl, rfl, rfl, rfl, rfl, rfl⟩

/-- Settles O12: each read from the reset state. -/
theorem readsAfterReset : Obligations.ReadsAfterReset :=
  ⟨rfl, rfl, rfl, rfl, rfl, rfl⟩

end Sys2Proof.Machine
end

section
/-! PROOFS of the memory family, first part: the register window, which command row owns a word, and that an
access which decodes is its instruction's encoding. -/

namespace Sys2Proof.Machine

/-! ## The window of 256 bytes (R52) -/

theorem busOffset_inside {base addr : Nat} (hlo : base ≤ addr) (hhi : addr ≤ base + 0xFF) :
    busOffset base addr = some (BitVec.ofNat 8 (addr - base)) :=
  if_pos ⟨hlo, hhi⟩

theorem busOffset_outside {base addr : Nat} (h : addr < base ∨ base + 0xFF < addr) : busOffset base addr = none :=
  if_neg fun ⟨hlo, hhi⟩ => by omega

/-- Settles O5: an offset inside the window fits a byte. -/
theorem windowOffset : Obligations.WindowOffset := by
  refine fun base addr hbase => ⟨fun hlo hhi => ?_, busOffset_outside⟩
  have hoff : (BitVec.ofNat 8 (addr - base)).toNat = addr - base := Nat.mod_eq_of_lt (by omega)
  exact ⟨_, busOffset_inside hlo hhi, hoff, hoff.trans (by omega)⟩

/-! ## Command words by match and mask (R75, R77) -/

theorem cmdOpc_toNat (w : Word) : (cmdOpc w).toNat = w.toNat / 2 ^ 28 := by
  have := w.isLt
  rw [cmdOpc, BitVec.extractLsb'_toNat, Nat.shiftRight_eq_div_pow]
  omega

theorem isReservedOpc_cmdOpc (w : Word) : isReservedOpc (cmdOpc w) = isReservedWord w := by
  have := cmdOpc_toNat w
  exact decide_eq_decide.2 (by omega)

/-- The fields that the mask 0xFF00_0000 keeps. -/
theorem cmdOpc_mask (w : Word) : cmdOpc (w &&& 0xFF000000#32) = cmdOpc w :=
  BitVec.extractLsb'_and.trans BitVec.and_allOnes

theorem cmdRsv_mask (w : Word) : cmdRsv (w &&& 0xFF000000#32) = cmdRsv w :=
  BitVec.extractLsb'_and.trans BitVec.and_allOnes

theorem decodeCmd_of_isReduceStWord {w : Word} (h : isReduceStWord w = true) :
    decodeCmd w = .reduceSt (cmdArg w) := by
  have hmask : w &&& 0xFF000000#32 = 0x50000000#32 := eq_of_beq h
  have hopc : cmdOpc w = 0x5#4 := by rw [← cmdOpc_mask, hmask]; rfl
  have hrsv : cmdRsv w = 0#4 := by rw [← cmdRsv_mask, hmask]; rfl
  simp [decodeCmd, hopc, hrsv]

theorem eq_cmdWord_of_decodeCmd_reduceSt {w : Word} {idx : BitVec 24} (h : decodeCmd w = .reduceSt idx) :
    w = cmdWord 0x5#4 0#4 idx := by
  unfold decodeCmd at h
  split_ifs at h with hrsv hopc harg
  · obtain rfl := Command.reduceSt.inj h
    rw [← hopc, ← not_not.1 hrsv, cmdWord_fields]
  · split at h <;> exact nomatch h

theorem decodeCmd_ne_bad_of_isPlainCommandWord {w : Word} (h : isPlainCommandWord w = true) : decodeCmd w ≠ .bad := by
  simp only [isPlainCommandWord, List.contains_iff_mem, List.mem_cons, List.not_mem_nil, or_false] at h
  obtain rfl | rfl | rfl | rfl | rfl | rfl := h <;> decide

/-- The words that decode to no command and are no reserved opcode are those that no command row owns (R78). -/
theorem isCommandWord_of_bad {w : Word} (hres : isReservedOpc (cmdOpc w) ≠ true) (hbad : decodeCmd w = .bad) :
    isCommandWord w = false := by
  have hplain : isPlainCommandWord w = false :=
    Bool.eq_false_of_not_eq_true fun h => decodeCmd_ne_bad_of_isPlainCommandWord h hbad
  have hreduceSt : isReduceStWord w = false :=
    Bool.eq_false_of_not_eq_true fun h => nomatch hbad.symm.trans (decodeCmd_of_isReduceStWord h)
  have hreserved : isReservedWord w = false :=
    Bool.eq_false_of_not_eq_true (isReservedOpc_cmdOpc w ▸ hres)
  simp [isCommandWord, hplain, hreduceSt, hreserved]

/-! ## An access that decodes, encoded again (R71, R72) -/

/-- `i` is well-formed and stands for the access `a`. -/
def Denotes (i : Instr) (a : BusAccess) : Prop := wellFormed i = true ∧ encode i = a

theorem decodeCmdWrite_denotes (v : Word) : Denotes (decodeCmdWrite v) (commandAccess v) := by
  unfold decodeCmdWrite
  split_ifs with hres
  · exact ⟨(isReservedOpc_cmdOpc v).symm.trans hres, rfl⟩
  · cases hc : decodeCmd v with
    | bad => exact ⟨by simp [wellFormed, isCommandWord_of_bad hres hc], rfl⟩
    | reduceSt idx => rw [eq_cmdWord_of_decodeCmd_reduceSt hc]; exact ⟨rfl, rfl⟩
    | nop | configure | nextFrame | normalize | reduce | softReset =>
      rw [eq_plainWord (congrArg plainWord hc)]
      exact ⟨rfl, rfl⟩

theorem decodeRead_denotes {n : Nat} {i : Instr} (h : decodeRead n = .ok i) :
    Denotes i (readAccess (BitVec.ofNat 8 n)) := by
  unfold decodeRead at h
  split at h <;> cases h <;> exact ⟨rfl, rfl⟩

theorem decodeWrite_denotes {n : Nat} {v : Word} {i : Instr} (h : decodeWrite n v = .ok i) :
    Denotes i (writeAccess (BitVec.ofNat 8 n) v) := by
  unfold decodeWrite at h
  split at h
  case h_4 => exact Except.ok.inj h ▸ decodeCmdWrite_denotes v
  case h_18 => exact nomatch h
  all_goals cases h; exact ⟨rfl, rfl⟩

/-- Settles O3: by the access's direction, and for a write to CMD by the command its word decodes to. -/
theorem decodedAccessIsItsEncoding : Obligations.DecodedAccessIsItsEncoding := by
  intro a i h
  obtain ⟨off, rfl, hread⟩ | ⟨off, v, rfl, hwrite⟩ := decode_ok h
  · simpa [Denotes] using decodeRead_denotes hread
  · simpa [Denotes] using decodeWrite_denotes hwrite

end Sys2Proof.Machine
end

section
/-! PROOFS of the memory family, second part: where a step stops, what a host access leaves while a frame is with the
sink, what of the ring each instruction leaves, and the bytes of the sink port. -/

namespace Sys2Proof.Machine

variable {s t : State}

/-! ## Which accesses are operations (R53, R54) -/

theorem encode_mapped (i : Instr) : Laws.MappedAccess (encode i) := by
  cases i with
  | rdId | rdStatus | rdErrcode | rdCmd | rdCap | rdFlen | rdCh | rdCursor | rdDamp | rdDredIn | rdDredOut
  | rdRingAddr | rdRingData | rdLastStart | rdLastTail | rdLastHead | rdLastRes =>
    exact Laws.readAccess_mapped _ (by decide) (by decide)
  | _ => exact Laws.writeAccess_mapped _ _ (by decide) (by decide)

theorem decode_ok_iff_mapped (a : BusAccess) : (∃ i, decode a = .ok i) ↔ Laws.MappedAccess a := by
  constructor
  · rintro ⟨i, hi⟩
    obtain ⟨-, rfl⟩ := decodedAccessIsItsEncoding a i hi
    exact encode_mapped i
  · obtain ⟨op, off, width⟩ := a
    rintro ⟨rfl, h4, hmax⟩
    simp only [decode]
    rw [if_neg (not_not.2 h4)]
    obtain ⟨k, hk⟩ := Nat.dvd_of_mod_eq_zero h4
    have hk16 : k ≤ 16 := by omega
    rw [hk]
    cases op <;> interval_cases k <;> exact ⟨_, rfl⟩

/-! ## Where an instruction stops (R86, R119, R143) -/

/-- The BUSY check drops a write, with an answer, or lets it run (R84). -/
theorem hostWrite_answers_or_runs (body : State → Result) (s : State) :
    (∃ t, hostWrite body s = .next t) ∨ hostWrite body s = body s := by
  unfold hostWrite
  split
  · exact .inl ⟨_, rfl⟩
  · exact .inr rfl

theorem hostWrite_answers {body : State → Result} (h : ∃ t, body s = .next t) : ∃ t, hostWrite body s = .next t :=
  (hostWrite_answers_or_runs body s).elim id fun hrun => hrun ▸ h

theorem writeDamp_answers (v : Word) (s : State) : ∃ t, writeDamp v s = .next t := by
  unfold writeDamp
  split <;> exact ⟨_, rfl⟩

theorem writeRing_answers (v : Word) (s : State) : ∃ t, writeRing v s = .next t := by
  unfold writeRing
  split <;> exact ⟨_, rfl⟩

theorem readRing_answers_or_stops (s : State) : (∃ t, readRing s = .next t) ∨ readRing s = .fault .uninitRead := by
  unfold readRing
  split
  · exact .inl ⟨_, rfl⟩
  · split
    · exact .inr rfl
    · exact .inl ⟨_, rfl⟩

theorem issueFrame_answers_or_stops (s : State) :
    (∃ t, issueFrame s = .next t) ∨ issueFrame s = .fault .uninitRead := by
  unfold issueFrame
  split
  · split
    · exact .inr rfl
    · exact .inl ⟨_, rfl⟩
  · exact .inl ⟨_, rfl⟩

theorem execCmd_answers {c : Command} (hc : c ≠ .nextFrame) (s : State) : ∃ t, execCmd c s = .next t := by
  cases c with
  | bad | nop | reduce | softReset => exact ⟨_, rfl⟩
  | nextFrame => exact absurd rfl hc
  | configure =>
    simp only [execCmd, configureCmd]
    split <;> exact ⟨_, rfl⟩
  | normalize =>
    simp only [execCmd, normalizeCmd]
    split_ifs <;> exact ⟨_, rfl⟩
  | reduceSt =>
    simp only [execCmd, reduceStore]
    split <;> exact ⟨_, rfl⟩

/-- An instruction answers a next state, or it is one of the two that read the ring out and meets ⊥ there. -/
def AnswersOrUninit (i : Instr) (s : State) : Prop :=
  (∃ t, exec i s = .next t) ∨
    (exec i s = .fault .uninitRead ∧ (i = .rdRingData ∨ commandOf i = some .nextFrame))

theorem AnswersOrUninit.of_commandOf {i : Instr} {c : Command} (hc : commandOf i = some c) (s : State) :
    AnswersOrUninit i s := by
  unfold AnswersOrUninit
  rw [exec_of_commandOf hc]
  obtain h | h := hostWrite_answers_or_runs (execCmd c) s
  · exact .inl h
  · rw [h]
    by_cases hnext : c = .nextFrame
    · subst hnext
      exact (issueFrame_answers_or_stops s).imp id fun hstop => ⟨hstop, .inr hc⟩
    · exact .inl (execCmd_answers hnext s)

theorem exec_answers_or_uninit (i : Instr) (s : State) : AnswersOrUninit i s := by
  cases i with
  | nop | configure | nextFrame | normalize | reduce | reduceSt | softReset | reserved | wrCmd =>
    exact .of_commandOf rfl s
  | rdRingData => exact (readRing_answers_or_stops s).imp id fun h => ⟨h, .inl rfl⟩
  | wrCap | wrFlen | wrCh | wrDredIn | wrRingAddr => exact .inl (hostWrite_answers ⟨_, rfl⟩)
  | wrDamp v => exact .inl (hostWrite_answers (writeDamp_answers v s))
  | wrRingData v => exact .inl (hostWrite_answers (writeRing_answers v s))
  | _ => exact .inl ⟨_, rfl⟩

/-! ## Where a step stops -/

theorem step_of_decode_ok {a : BusAccess} {rest : List Input} {i : Instr} (hin : s.inputs = .host a :: rest)
    (hi : decode a = .ok i) : step s = exec i { s with inputs := rest } := by
  simp [step, takeInput_some.2 ⟨rest, hin, rfl⟩, hi]

theorem step_of_decode_error {a : BusAccess} {rest : List Input} {e : DecodeError} (hin : s.inputs = .host a :: rest)
    (he : decode a = .error e) : step s = .fault .busError := by
  simp [step, takeInput_some.2 ⟨rest, hin, rfl⟩, he]

/-- Only the NEXT_FRAME row carries that command on the bus: the one word of R75 decodes to it. -/
theorem decode_nextFrame {a : BusAccess} {i : Instr} (hi : decode a = .ok i) (hc : commandOf i = some .nextFrame) :
    decode a = .ok .nextFrame := by
  rw [decode_plainCommand hi hc rfl]
  rfl

/-- `HostStop s r`: the host access that `s` takes next stops with the fault `r`. -/
def HostStop (s : State) (r : Fault) : Prop :=
  ∃ a rest, s.inputs = .host a :: rest ∧
    ((r = .busError ∧ ∀ i, decode a ≠ .ok i) ∨
      (r = .uninitRead ∧ (decode a = .ok .rdRingData ∨ decode a = .ok .nextFrame)))

theorem step_answers_or_stops (s : State) : (∃ t, step s = .next t) ∨ ∃ r, step s = .fault r ∧ HostStop s r := by
  cases hin : s.inputs with
  | nil => exact .inl ⟨s, step_of_no_inputs hin⟩
  | cons x rest =>
    cases x with
    | sink r =>
      exact .inl ⟨answerSink r { s with inputs := rest }, by simp [step, takeInput_some.2 ⟨rest, hin, rfl⟩]⟩
    | hardReset =>
      exact .inl ⟨hardReset { s with inputs := rest }, by simp [step, takeInput_some.2 ⟨rest, hin, rfl⟩]⟩
    | host a =>
      cases hi : decode a with
      | error e =>
        have hnone : ∀ i, decode a ≠ .ok i := fun i h => nomatch hi.symm.trans h
        exact .inr ⟨_, step_of_decode_error hin hi, a, rest, hin, .inl ⟨rfl, hnone⟩⟩
      | ok i =>
        rw [step_of_decode_ok hin hi]
        obtain h | ⟨h, hwhere⟩ := exec_answers_or_uninit i { s with inputs := rest }
        · exact .inl h
        · have hdecoded : decode a = .ok .rdRingData ∨ decode a = .ok .nextFrame :=
            hwhere.imp (fun hrd => by rw [hi, hrd]) (decode_nextFrame hi)
          exact .inr ⟨_, h, a, rest, hin, .inr ⟨rfl, hdecoded⟩⟩

/-- Settles O59: the two outcomes of `step_answers_or_stops`. -/
theorem stopsAreBusErrorOrUninitRead : Obligations.StopsAreBusErrorOrUninitRead := by
  intro s
  obtain ⟨t, h⟩ | ⟨r, h, hstop⟩ := step_answers_or_stops s
  · exact ⟨fun _ hr => (nomatch h.symm.trans hr), fun _ hr => (nomatch h.symm.trans hr)⟩
  · refine ⟨fun _ hr => (nomatch h.symm.trans hr), fun r' hr => ?_⟩
    obtain rfl := Host.Outcome.fault.inj (h.symm.trans hr)
    exact hstop

/-- Settles O8: the accesses that decode are the mapped ones, and no instruction stops with BusError. -/
theorem busErrorExactly : Obligations.BusErrorExactly := by
  refine fun s a rest hin => ⟨fun hbad => ?_, fun hwidth h4 hmax => ?_⟩
  · cases hi : decode a with
    | error e => exact step_of_decode_error hin hi
    | ok i =>
      obtain ⟨hwidth, h4, hmax⟩ := (decode_ok_iff_mapped a).1 ⟨i, hi⟩
      obtain h | h | h := hbad
      · exact absurd hwidth h
      · exact absurd h4 h
      · omega
  · obtain ⟨i, hi⟩ := (decode_ok_iff_mapped a).2 ⟨hwidth, h4, hmax⟩
    refine ⟨⟨i, hi⟩, ?_⟩
    rw [step_of_decode_ok hin hi]
    obtain ⟨t, h⟩ | ⟨h, -⟩ := exec_answers_or_uninit i { s with inputs := rest } <;> rw [h] <;> nofun

/-! ## The host while a frame is with the sink (R66, R84) -/

/-- `PendingKept s t`: `t` differs from `s` in ERR, SAT, ERRCODE, RING_ADDR and the returned word at most. -/
def PendingKept (s t : State) : Prop :=
  t = { s with
    status := { s.status with err := t.status.err, sat := t.status.sat }
    errcode := t.errcode
    ringAddr := t.ringAddr
    readData := t.readData }

theorem PendingKept.ring (h : PendingKept s t) : t.ring = s.ring := by
  unfold PendingKept at h
  rw [h]

theorem PendingKept.writeStatus (v : Word) (s : State) : PendingKept s (writeStatus v s) := by
  unfold Machine.writeStatus w1cSat w1cError
  split_ifs <;> rfl

/-- With BUSY = 1 an instruction reads, writes STATUS or is dropped. -/
theorem exec_busy {i : Instr} (hbusy : s.status.busy = true) (h : exec i s = .next t) : PendingKept s t := by
  cases exec_next h with
  | plainRead | ignored | dropped => rfl
  | statusWrite v => exact .writeStatus v s
  | ringRead hrun => obtain ⟨-, rfl⟩ | ⟨-, w, -, rfl⟩ := readRing_next hrun <;> rfl
  | command _ hidle | capWrite _ hidle | flenWrite _ hidle | chWrite _ hidle | dampWrite hidle | dredInWrite _ hidle
  | ringAddrWrite _ hidle | ringWrite hidle => exact nomatch hbusy.symm.trans hidle

/-- Settles O52: the access is an instruction, run with BUSY = 1 (`exec_busy`). -/
theorem hostCannotDisturbPendingFrame : Obligations.HostCannotDisturbPendingFrame := by
  intro s t a rest hbusy hin h
  cases hi : decode a with
  | error e => exact nomatch (step_of_decode_error hin hi).symm.trans h
  | ok i => exact exec_busy (s := { s with inputs := rest }) hbusy ((step_of_decode_ok hin hi).symm.trans h)

/-! ## The ring (R56) -/

theorem Memory.read_write_of_ne {i a : Nat} (h : a ≠ i) (m : Memory) (v : Sample) :
    Memory.read (Memory.write m i v) a = Memory.read m a := by
  rw [Memory.read_write, if_neg h.symm]

theorem Memory.read_swapBelow_of_le {c a : Nat} (h : c ≤ a) (m : Memory) :
    Memory.read (Memory.swapBelow c m) a = Memory.read m a := by
  rw [Memory.read_swapBelow, if_neg (by omega)]

/-- `Spares c s a`: command `c`, run in `s`, addresses another ring word than the one at `a`. -/
def Spares (c : Command) (s : State) (a : Nat) : Prop :=
  match c with
  | .reduceSt idx => a ≠ idx.toNat
  | .normalize => s.cap.toNat ≤ a
  | _ => True

theorem execCmd_read {c : Command} {a : Nat} (h : execCmd c s = .next t) (ha : Spares c s a) :
    Memory.read t.ring a = Memory.read s.ring a := by
  cases c with
  | bad | nop | reduce | softReset => obtain rfl := Host.Outcome.next.inj h; rfl
  | configure => obtain ⟨e, -, rfl⟩ | ⟨-, rfl⟩ := configureCmd_next h <;> rfl
  | nextFrame => obtain ⟨-, rfl⟩ | ⟨-, f, -, rfl⟩ := issueFrame_next h <;> rfl
  | normalize =>
    obtain ⟨-, rfl⟩ | ⟨-, -, rfl⟩ | ⟨-, -, rfl⟩ := normalizeCmd_next h
    · rfl
    · exact Memory.read_swapBelow_of_le ha s.ring
    · rfl
  | reduceSt =>
    obtain ⟨-, rfl⟩ | ⟨-, rfl⟩ := reduceStore_next h
    · rfl
    · exact Memory.read_write_of_ne ha s.ring _

/-- A ring word that neither the instruction's command nor a RING_DATA write addresses stays as it is. -/
theorem exec_read {i : Instr} {a : Nat} (h : exec i s = .next t)
    (hcmd : ∀ c, commandOf i = some c → Spares c s a) (hport : ∀ v, i = .wrRingData v → a ≠ s.ringAddr.toNat) :
    Memory.read t.ring a = Memory.read s.ring a := by
  cases exec_next h with
  | plainRead | ignored | dropped | capWrite | flenWrite | chWrite | dredInWrite | ringAddrWrite => rfl
  | statusWrite v => rw [(PendingKept.writeStatus v s).ring]
  | command hc _ hrun => exact execCmd_read hrun (hcmd _ hc)
  | ringRead hrun => obtain ⟨-, rfl⟩ | ⟨-, w, -, rfl⟩ := readRing_next hrun <;> rfl
  | dampWrite _ hrun => obtain ⟨-, rfl⟩ | ⟨-, rfl⟩ := writeDamp_next hrun <;> rfl
  | ringWrite _ hrun =>
    obtain ⟨-, rfl⟩ | ⟨-, rfl⟩ := writeRing_next hrun
    · rfl
    · exact Memory.read_write_of_ne (hport _ rfl) s.ring _

/-- Of the instructions other than WR_CMD, whose word may hold any command, REDUCE_ST and NORMALIZE alone address the
ring by a command. -/
theorem spares_of_commandOf {i : Instr} {c : Command} {a : Nat} (hc : commandOf i = some c)
    (hreduceSt : ∀ idx, i ≠ .reduceSt idx) (hnormalize : i ≠ .normalize) (hwrCmd : ∀ v, i ≠ .wrCmd v) :
    Spares c s a := by
  cases i with
  | reduceSt idx => exact absurd rfl (hreduceSt idx)
  | normalize => exact absurd rfl hnormalize
  | wrCmd v => exact absurd rfl (hwrCmd v)
  | nop | configure | nextFrame | reduce | softReset | reserved => obtain rfl := Option.some.inj hc; trivial
  | _ => exact nomatch hc

/-- Settles O58: what each instruction addresses, for `exec_read`. -/
theorem ringFrames : Obligations.RingFrames := by
  refine fun i s t a h => ⟨?_, ?_, ?_, fun hport hreduceSt hnormalize hwrCmd => ?_⟩
  · rintro v rfl ha
    exact exec_read h nofun fun _ _ => ha
  · rintro idx rfl ha
    exact exec_read h (fun c hc => Option.some.inj hc ▸ ha) nofun
  · rintro rfl ha
    exact exec_read h (fun c hc => Option.some.inj hc ▸ ha) nofun
  · exact exec_read h (fun c hc => spares_of_commandOf hc hreduceSt hnormalize hwrCmd)
      fun v hv => absurd hv (hport v)

/-! ## Bytes in storage order (R59, R113, R120) -/

theorem swap16_low (w : Sample) : (swap16 w).extractLsb' 0 8 = w.extractLsb' 8 8 :=
  BitVec.extractLsb'_append_eq_right

theorem swap16_high (w : Sample) : (swap16 w).extractLsb' 8 8 = w.extractLsb' 0 8 :=
  BitVec.extractLsb'_append_eq_left

/-- Settles O40: the swap exchanges the two bytes, and is an involution (`swap16_swap16`). -/
theorem wireOrderIsBigEndian : Obligations.WireOrderIsBigEndian := by
  refine fun w => ⟨rfl, rfl, ?_, swap16_swap16 w⟩
  calc storageBytes true (swap16 w)
      = [(swap16 w).extractLsb' 0 8, (swap16 w).extractLsb' 8 8] := rfl
    _ = [w.extractLsb' 8 8, w.extractLsb' 0 8] := by rw [swap16_low, swap16_high]

theorem storageBytes_eq (hostLe : Bool) (w : Sample) :
    storageBytes hostLe w =
      [if hostLe then w.extractLsb' 0 8 else w.extractLsb' 8 8,
        if hostLe then w.extractLsb' 8 8 else w.extractLsb' 0 8] := by
  cases hostLe <;> rfl

@[simp] theorem storageBytes_length (hostLe : Bool) (w : Sample) : (storageBytes hostLe w).length = 2 := by
  rw [storageBytes_eq]
  rfl

theorem flatMap_storageBytes_length (hostLe : Bool) (f : List Sample) :
    (f.flatMap (storageBytes hostLe)).length = 2 * f.length := by
  simp [List.length_flatMap, Nat.mul_comm]

/-- Serialised words are two bytes each, so the j-th word's bytes are the ones at 2j and 2j+1. -/
theorem flatMap_storageBytes_getElem? {hostLe : Bool} {f : List Sample} {j : Nat} {w : Sample} (hw : f[j]? = some w)
    {k : Nat} (hk : k < 2) :
    (f.flatMap (storageBytes hostLe))[2 * j + k]? = (storageBytes hostLe w)[k]? := by
  induction f generalizing j with
  | nil => exact nomatch hw
  | cons u f ih =>
    rw [List.flatMap_cons]
    cases j with
    | zero =>
      obtain rfl : u = w := Option.some.inj hw
      rw [List.getElem?_append_left (by rw [storageBytes_length]; omega), Nat.mul_zero, Nat.zero_add]
    | succ j =>
      rw [List.getElem?_append_right (by rw [storageBytes_length]; omega), ← ih hw, storageBytes_length]
      congr 1
      omega

/-- Settles O45: the bytes of each word by their positions (`flatMap_storageBytes_getElem?`). -/
theorem sinkPortPresentsFrame : Obligations.SinkPortPresentsFrame := by
  refine fun s => ⟨fun hidle => if_neg (Bool.eq_false_iff.1 hidle), fun hbusy => ⟨_, if_pos hbusy, rfl, rfl,
    flatMap_storageBytes_length _ _, fun j w hw => ?_⟩⟩
  have hlow := flatMap_storageBytes_getElem? (hostLe := s.cfg.hostLe) hw Nat.zero_lt_two
  have hhigh := flatMap_storageBytes_getElem? (hostLe := s.cfg.hostLe) hw Nat.one_lt_two
  rw [storageBytes_eq] at hlow hhigh
  exact ⟨hlow, hhigh⟩

end Sys2Proof.Machine
end

section
/-! PROOFS of the encoding family: the fields of a command word, each command by the words that decode to it, and the
round trip from an instruction to its access and back. -/

namespace Sys2Proof.Machine

/-! ## A command word and its fields (R73, R74) -/

@[simp] theorem cmdOpc_cmdWord (opc rsv : BitVec 4) (arg : BitVec 24) : cmdOpc (cmdWord opc rsv arg) = opc := by
  unfold cmdOpc cmdWord
  rw [BitVec.append_assoc]
  exact BitVec.extractLsb'_append_eq_left

@[simp] theorem cmdRsv_cmdWord (opc rsv : BitVec 4) (arg : BitVec 24) : cmdRsv (cmdWord opc rsv arg) = rsv := by
  unfold cmdRsv cmdWord
  rw [BitVec.extractLsb'_append_eq_of_le (by decide)]
  exact BitVec.extractLsb'_append_eq_right

@[simp] theorem cmdArg_cmdWord (opc rsv : BitVec 4) (arg : BitVec 24) : cmdArg (cmdWord opc rsv arg) = arg :=
  BitVec.extractLsb'_append_eq_right

theorem cmdArg_mask (w : Word) : cmdArg (w &&& 0xFF000000#32) = 0#24 :=
  BitVec.extractLsb'_and.trans BitVec.and_zero

/-- The mask 0xFF00_0000 keeps OPC and RSV, and clears ARG. -/
theorem mask_eq_cmdWord (w : Word) : w &&& 0xFF000000#32 = cmdWord (cmdOpc w) (cmdRsv w) 0#24 := by
  rw [← cmdWord_fields (w &&& 0xFF000000#32), cmdOpc_mask, cmdRsv_mask, cmdArg_mask]

theorem isReduceStWord_cmdWord (idx : BitVec 24) : isReduceStWord (cmdWord 0x5#4 0#4 idx) = true := by
  rw [isReduceStWord, mask_eq_cmdWord, cmdOpc_cmdWord, cmdRsv_cmdWord]
  rfl

theorem cmdArg_toNat (w : Word) : (cmdArg w).toNat = w.toNat % 2 ^ 24 := by
  rw [cmdArg, BitVec.extractLsb'_toNat, Nat.shiftRight_zero]

/-- The word of REDUCE_ST idx as R75's match word with IDX in its low bits. -/
theorem cmdWord_reduceSt (idx : BitVec 24) : cmdWord 0x5#4 0#4 idx = 0x50000000#32 ||| idx.setWidth 32 := by
  have hidx : (idx.setWidth 32).toNat = idx.toNat := BitVec.toNat_setWidth_of_le (by decide)
  apply BitVec.eq_of_toNat_eq
  rw [cmdWord, BitVec.toNat_append, BitVec.toNat_or, hidx]
  rfl

/-! ## Each command by its words (R75, R76, R78) -/

theorem decodeCmd_plainWord {c : Command} {u : Word} (h : plainWord c = some u) : decodeCmd u = c := by
  cases c with
  | bad | reduceSt => exact nomatch h
  | nop | configure | nextFrame | normalize | reduce | softReset => obtain rfl := Option.some.inj h; rfl

theorem decodeCmd_eq_iff_plainWord {c : Command} {u : Word} (hc : plainWord c = some u) (w : Word) :
    decodeCmd w = c ↔ w = u :=
  ⟨fun h => eq_plainWord (h ▸ hc), fun h => h ▸ decodeCmd_plainWord hc⟩

theorem decodeCmd_eq_reduceSt_iff (w : Word) (idx : BitVec 24) :
    decodeCmd w = .reduceSt idx ↔ isReduceStWord w = true ∧ cmdArg w = idx := by
  constructor
  · intro h
    rw [eq_cmdWord_of_decodeCmd_reduceSt h]
    exact ⟨isReduceStWord_cmdWord idx, cmdArg_cmdWord ..⟩
  · rintro ⟨hw, rfl⟩
    exact decodeCmd_of_isReduceStWord hw

/-- Every command that R75 matches whole has its word in the list of those words. -/
theorem isPlainCommandWord_of_plainWord {c : Command} {u : Word} (h : plainWord c = some u) :
    isPlainCommandWord u = true := by
  cases c with
  | bad | reduceSt => exact nomatch h
  | nop | configure | nextFrame | normalize | reduce | softReset => obtain rfl := Option.some.inj h; rfl

/-- BAD is left for the words that R75 matches neither whole nor under REDUCE_ST's mask. -/
theorem decodeCmd_eq_bad_iff (w : Word) :
    decodeCmd w = .bad ↔ isReduceStWord w = false ∧ isPlainCommandWord w = false := by
  constructor
  · intro hbad
    exact ⟨Bool.eq_false_of_not_eq_true fun h => (nomatch hbad.symm.trans (decodeCmd_of_isReduceStWord h)),
      Bool.eq_false_of_not_eq_true fun h => decodeCmd_ne_bad_of_isPlainCommandWord h hbad⟩
  · rintro ⟨hreduceSt, hplain⟩
    have hnot (u : Word) : plainWord (decodeCmd w) ≠ some u := fun h => by
      have hu : isPlainCommandWord u = true := isPlainCommandWord_of_plainWord h
      rw [← eq_plainWord h, hplain] at hu
      exact nomatch hu
    cases hc : decodeCmd w with
    | bad => rfl
    | reduceSt idx =>
      obtain ⟨hw, -⟩ := (decodeCmd_eq_reduceSt_iff w idx).1 hc
      exact nomatch hreduceSt.symm.trans hw
    | nop | configure | nextFrame | normalize | reduce | softReset => exact absurd (congrArg plainWord hc) (hnot _)

/-- Settles O4: the two kinds of match, and BAD for what they leave. -/
theorem commandWordsByMatchAndMask : Obligations.CommandWordsByMatchAndMask := by
  intro w
  have plain {c : Command} {u : Word} (hc : plainWord c = some u) : decodeCmd w = c ↔ w = u :=
    decodeCmd_eq_iff_plainWord hc w
  refine ⟨plain rfl, plain rfl, plain rfl, plain rfl, plain rfl, plain rfl, fun idx => ?_, ?_⟩
  · rw [decodeCmd_eq_reduceSt_iff, isReduceStWord, beq_iff_eq, ← cmdArg_toNat, BitVec.toNat_inj, eq_comm (a := idx)]
  · simp [decodeCmd_eq_bad_iff, isReduceStWord, isPlainCommandWord]

/-! ## The instruction that a CMD write is (R71, R77, R78) -/

theorem decodeCmdWrite_of_isReservedWord {w : Word} (h : isReservedWord w = true) : decodeCmdWrite w = .reserved w :=
  if_pos ((isReservedOpc_cmdOpc w).trans h)

theorem decodeCmdWrite_of_unowned {w : Word} (h : isCommandWord w = false) : decodeCmdWrite w = .wrCmd w := by
  obtain ⟨⟨hplain, hreduceSt⟩, hres⟩ : (isPlainCommandWord w = false ∧ isReduceStWord w = false) ∧
      isReservedWord w = false := by simpa [isCommandWord] using h
  have hbad : decodeCmd w = .bad := (decodeCmd_eq_bad_iff w).2 ⟨hreduceSt, hplain⟩
  simp [decodeCmdWrite, isReservedOpc_cmdOpc, hres, hbad]

theorem decodeCmdWrite_reduceSt (idx : BitVec 24) : decodeCmdWrite (cmdWord 0x5#4 0#4 idx) = .reduceSt idx := by
  have hc : decodeCmd (cmdWord 0x5#4 0#4 idx) = .reduceSt idx :=
    (decodeCmd_eq_reduceSt_iff ..).2 ⟨isReduceStWord_cmdWord idx, cmdArg_cmdWord ..⟩
  have hres : isReservedOpc 0x5#4 = false := rfl
  simp [decodeCmdWrite, hres, hc]

/-! ## An instruction's access, decoded again (R71, R72) -/

theorem decode_readAccess {off : BitVec 8} (h4 : off.toNat % 4 = 0) :
    decode (readAccess off) = decodeRead off.toNat :=
  if_neg (not_not.2 h4)

theorem decode_writeAccess {off : BitVec 8} (h4 : off.toNat % 4 = 0) (v : Word) :
    decode (writeAccess off v) = decodeWrite off.toNat v :=
  if_neg (not_not.2 h4)

theorem decode_commandAccess {w : Word} {i : Instr} (h : decodeCmdWrite w = i) : decode (commandAccess w) = .ok i :=
  h ▸ decode_writeAccess rfl w

/-- Settles O2: a CMD write by the row that owns its word, every other access by its offset. -/
theorem decodeEncodeAgree : Obligations.DecodeEncodeAgree := by
  intro i hwf
  cases i with
  | reduceSt idx => exact decode_commandAccess (decodeCmdWrite_reduceSt idx)
  | reserved w => exact decode_commandAccess (decodeCmdWrite_of_isReservedWord hwf)
  | wrCmd v => exact decode_commandAccess (decodeCmdWrite_of_unowned (by simpa [wellFormed] using hwf))
  | nop | configure | nextFrame | normalize | reduce | softReset => exact decode_commandAccess rfl
  | rdId | rdStatus | rdErrcode | rdCmd | rdCap | rdFlen | rdCh | rdCursor | rdDamp | rdDredIn | rdDredOut
  | rdRingAddr | rdRingData | rdLastStart | rdLastTail | rdLastHead | rdLastRes => exact decode_readAccess rfl
  | _ => exact decode_writeAccess rfl _

/-! ## Pseudo-instructions and reserved opcodes (R77, R82) -/

/-- Settles O6: line by line; REDUCE_ST's word is put together as R75 gives it (`cmdWord_reduceSt`). -/
theorem pseudoInstructionsExpand : Obligations.PseudoInstructionsExpand := by
  refine fun v cap flen ch r base words idx => ⟨rfl, rfl, rfl, rfl, ?_, rfl, rfl⟩
  rw [← cmdWord_reduceSt]
  rfl

/-- Settles O32: the word is reserved whatever its low 28 bits, and BUSY = 0 lets the write through. -/
theorem reservedOpcodesRaiseBadCmd : Obligations.ReservedOpcodesRaiseBadCmd := by
  intro w s rest hidle hlo hhi
  have hres : isReservedWord w = true := decide_eq_true (by omega)
  have hdecode : decode (writeAccess 0x0C#8 w) = .ok (.reserved w) :=
    decode_commandAccess (decodeCmdWrite_of_isReservedWord hres)
  have hexec {t : State} (ht : Idle t) : exec (.reserved w) t = .next (signalError .badCmd t) := hostWrite_idle ht
  exact ⟨hdecode, hexec hidle, rfl, fun hin => (step_of_decode_ok hin hdecode).trans (hexec hidle)⟩

end Sys2Proof.Machine
end

section
/-! PROOFS of the bus access family: what each access answers and leaves unchanged (R83 to R97), and the command that
a CMD write runs (R88, R98). First an equation for each outcome of the operations that accesses share; then the reads,
the writes and CMD. -/

namespace Sys2Proof.Machine

variable {s : State}

/-! ## What the operations of an access answer -/

theorem readReg_eq (v : Word) (s : State) : readReg v s = .next { s with readData := some v } := rfl

theorem readRing_of_out_of_range (h : s.cfg.capMax ≤ s.ringAddr.toNat) :
    readRing s = .next (respond 0#32 (signalError .ringRange s)) :=
  if_pos h

theorem readRing_of_unwritten (h : s.ringAddr.toNat < s.cfg.capMax)
    (hread : Memory.read s.ring s.ringAddr.toNat = none) : readRing s = .fault .uninitRead := by
  rw [readRing, if_neg (by omega), hread]

theorem readRing_of_written {w : Sample} (h : s.ringAddr.toNat < s.cfg.capMax)
    (hread : Memory.read s.ring s.ringAddr.toNat = some w) :
    readRing s = .next (respond (w.setWidth 32) { s with ringAddr := s.ringAddr + 1#32 }) := by
  rw [readRing, if_neg (by omega), hread]

theorem writeRing_of_out_of_range (v : Word) (h : s.cfg.capMax ≤ s.ringAddr.toNat) :
    writeRing v s = .next (signalError .ringRange s) :=
  if_pos h

theorem writeRing_of_in_range (v : Word) (h : s.ringAddr.toNat < s.cfg.capMax) :
    writeRing v s = .next { s with
      ring := Memory.write s.ring s.ringAddr.toNat (v.setWidth 16)
      ringAddr := s.ringAddr + 1#32 } :=
  if_neg (by omega)

theorem writeDamp_of_legal {v : Word} (h : dampLegal v = true) : writeDamp v s = .next { s with damp := v } :=
  if_pos h

theorem writeDamp_of_illegal {v : Word} (h : ¬ dampLegal v = true) :
    writeDamp v s = .next (signalError .dampIllegal s) :=
  if_neg h

/-- The two clears of R87 as one update. -/
theorem writeStatus_eq (v : Word) (s : State) :
    writeStatus v s = { s with
      errcode := if v.getLsbD 2 then .noError else s.errcode
      status := { s.status with
        err := s.status.err && !v.getLsbD 2
        sat := s.status.sat && !v.getLsbD 5 } } := by
  unfold writeStatus w1cSat w1cError
  cases v.getLsbD 2 <;> cases v.getLsbD 5 <;> simp [clearError, clearSat]

/-! ## The fields of STATUS and DAMP (R21, R37) -/

/-- The bits that STATUS reads, from bit 0 up (R85). -/
theorem statusWord_eq_ofBoolListLE (s : State) :
    statusWord s = (BitVec.ofBoolListLE [s.status.busy, s.status.configured, s.status.err, s.status.short,
      s.status.wrap, s.status.sat, s.status.swapped, s.cfg.hostLe]).setWidth 32 := by
  unfold statusWord
  cases s.cfg.hostLe <;> rfl

theorem dampNum_eq (v : Word) : dampNum v = v.toNat % 2 ^ 16 := by
  rw [dampNum, BitVec.extractLsb'_toNat, Nat.shiftRight_zero]

theorem dampDen_eq (v : Word) : dampDen v = v.toNat / 2 ^ 16 := by
  have := v.isLt
  rw [dampDen, BitVec.extractLsb'_toNat, Nat.shiftRight_eq_div_pow]
  omega

theorem dampLegal_iff (v : Word) :
    dampLegal v = true ↔ v.toNat / 2 ^ 16 ≠ 0 ∧ v.toNat % 2 ^ 16 ≤ v.toNat / 2 ^ 16 := by
  rw [dampLegal, decide_eq_true_iff, dampNum_eq, dampDen_eq]

/-! ## The step and the reads -/

/-- Settles O7: the case of `step` in which the access decodes (`step_of_decode_ok`). -/
theorem stepRunsDecodedInstruction : Obligations.StepRunsDecodedInstruction :=
  fun _ _ _ _ => step_of_decode_ok

/-- Settles O18: every plain read is `readReg` of its value, and STATUS is the list of its bits. -/
theorem plainReads : Obligations.PlainReads := by
  intro s
  have hbits (k : Nat) : (statusWord s).getLsbD k = (decide (k < 32) && [s.status.busy, s.status.configured,
      s.status.err, s.status.short, s.status.wrap, s.status.sat, s.status.swapped, s.cfg.hostLe].getD k false) := by
    rw [statusWord_eq_ofBoolListLE, BitVec.getLsbD_setWidth, BitVec.getLsbD_ofBoolListLE]
  have hhigh (k : Nat) (hk : 8 ≤ k) : (statusWord s).getLsbD k = false := by
    rw [hbits, List.getD_eq_default _ _ hk, Bool.and_false]
  have hread (v : Word) := readReg_eq v s
  exact ⟨hread _, hread _,
    ⟨hbits 0, hbits 1, hbits 2, hbits 3, hbits 4, hbits 5, hbits 6, hbits 7, hhigh⟩,
    hread _, hread _, hread _, hread _, hread _, hread _, hread _, hread _, hread _, hread _, hread _, hread _,
    hread _⟩

/-- Settles O19: CMD reads as the constant 0. -/
theorem commandRegisterReadsZero : Obligations.CommandRegisterReadsZero :=
  readReg_eq 0x00000000#32

/-- Settles O20: the three outcomes of `readRing`. -/
theorem ringPortRead : Obligations.RingPortRead :=
  fun _ => ⟨readRing_of_out_of_range, readRing_of_unwritten, fun _ => readRing_of_written⟩

/-! ## The writes -/

/-- Settles O23: a STATUS write has no BUSY check, and its update is `writeStatus_eq`. -/
theorem statusWrite : Obligations.StatusWrite :=
  fun v s => congrArg Host.Outcome.next (writeStatus_eq v s)

/-- Settles O24: BUSY = 0 lets each write through. -/
theorem geometryWrites : Obligations.GeometryWrites :=
  fun _ _ hidle => ⟨hostWrite_idle hidle, hostWrite_idle hidle, hostWrite_idle hidle⟩

/-- Settles O25: the fields of the word by division, for `writeDamp`'s check. -/
theorem dampWrite : Obligations.DampWrite := by
  refine fun v s hidle => ⟨fun hden hnum => ?_, fun hbad => ?_⟩
  · exact (hostWrite_idle hidle).trans (writeDamp_of_legal ((dampLegal_iff v).2 ⟨hden, hnum⟩))
  · have hillegal : ¬ dampLegal v = true := fun hlegal => by
      obtain ⟨hden, hnum⟩ := (dampLegal_iff v).1 hlegal
      omega
    exact (hostWrite_idle hidle).trans (writeDamp_of_illegal hillegal)

/-- Settles O26: BUSY = 0 lets each write through. -/
theorem reducerInputAndRingAddressWrites : Obligations.ReducerInputAndRingAddressWrites :=
  fun _ _ hidle => ⟨hostWrite_idle hidle, hostWrite_idle hidle⟩

/-- Settles O27: what reads give after the one ring write (`Memory.read_write`). -/
theorem ringPortWrite : Obligations.RingPortWrite := by
  refine fun v s hidle => ⟨fun hrange => ?_, fun hrange => ?_⟩
  · exact (hostWrite_idle hidle).trans (writeRing_of_out_of_range v hrange)
  · refine ⟨_, (hostWrite_idle hidle).trans (writeRing_of_in_range v hrange), rfl, ?_, fun i hi => ?_⟩
    · rw [Memory.read_write, if_pos rfl, BitVec.setWidth_eq_extractLsb' (by decide)]
    · exact Memory.read_write_of_ne hi s.ring _

/-- Settles O28: each of these writes is `ignoreWrite`. -/
theorem readOnlyWritesIgnored : Obligations.ReadOnlyWritesIgnored := by
  intro v s
  have hignored : ignoreWrite s = .next s := ignoreWrite_next.2 rfl
  exact ⟨hignored, hignored, hignored, hignored, hignored, hignored, hignored, hignored⟩

/-- Settles O29: each of these writes runs its body under the BUSY check of R84. -/
theorem busyDropsWrites : Obligations.BusyDropsWrites := by
  intro v idx s hbusy
  have hdropped (body : State → Result) : hostWrite body s = .next (signalError .busy s) := hostWrite_busy hbusy
  simp only [List.forall_mem_cons]
  exact ⟨hdropped _, hdropped _, hdropped _, hdropped _, hdropped _, hdropped _, hdropped _, hdropped _, hdropped _,
    hdropped _, hdropped _, hdropped _, hdropped _, hdropped _, hdropped _, hdropped _, nofun⟩

/-! ## The command that a CMD write runs -/

/-- WR_CMD has the outcome of the instruction that carries the same command, busy or not (R88, R98). -/
theorem exec_wrCmd_of_commandOf {v : Word} {i : Instr} (hi : commandOf i = some (decodeCmd v)) (s : State) :
    exec (.wrCmd v) s = exec i s :=
  (exec_of_commandOf (i := .wrCmd v) rfl s).trans (exec_of_commandOf hi s).symm

/-- Settles O30: each command by the instruction that carries it, and NEXT_FRAME is the one command that can stop. -/
theorem commandWriteRunsCommand : Obligations.CommandWriteRunsCommand := by
  intro v s hidle
  have hruns {c : Command} {i : Instr} (hi : commandOf i = some c) (hc : decodeCmd v = c) :
      exec (.wrCmd v) s = exec i s := exec_wrCmd_of_commandOf (hc ▸ hi) s
  refine ⟨fun hbad => ?_, fun hnop => ?_, hruns rfl, hruns rfl, hruns rfl, hruns rfl, fun _ => hruns rfl, hruns rfl,
    fun hv => ?_⟩
  · exact (hruns (i := .reserved v) rfl hbad).trans (hostWrite_idle hidle)
  · exact (hruns (i := .nop) rfl hnop).trans (hostWrite_idle hidle)
  · have hnext : decodeCmd v ≠ .nextFrame := fun h => hv ((decodeCmd_eq_iff_plainWord rfl v).1 h)
    exact hostWrite_answers (execCmd_answers hnext s)

end Sys2Proof.Machine
end

section
/-! PROOFS of the control family: NOP, CONFIGURE and SOFT_RESET as the host sees them (R99 to R101). First the outcome
of each of CONFIGURE's checks; then the statements, each by BUSY = 0 letting the command through (R84). -/

namespace Sys2Proof.Machine

variable {s : State}

/-! ## CONFIGURE's checks in their order (R100) -/

/-- A register of the geometry that is 0, by the registers and by the numbers they hold. -/
theorem geometry_zero_iff :
    (s.cap = 0#32 ∨ s.flen = 0#32 ∨ s.ch = 0#32) ↔ (s.cap.toNat = 0 ∨ s.flen.toNat = 0 ∨ s.ch.toNat = 0) := by
  simp only [BitVec.toNat_eq, BitVec.toNat_ofNat, Nat.zero_mod]

theorem configureError_cfgZero (hzero : s.cap.toNat = 0 ∨ s.flen.toNat = 0 ∨ s.ch.toNat = 0) :
    configureError s = some .cfgZero :=
  if_pos hzero

theorem configureError_cfgCapRange (hzero : ¬ (s.cap.toNat = 0 ∨ s.flen.toNat = 0 ∨ s.ch.toNat = 0))
    (hmax : s.cfg.capMax < s.cap.toNat) : configureError s = some .cfgCapRange := by
  rw [configureError, if_neg hzero, if_pos hmax]

theorem configureError_cfgCapNotMultCh (hzero : ¬ (s.cap.toNat = 0 ∨ s.flen.toNat = 0 ∨ s.ch.toNat = 0))
    (hmax : s.cap.toNat ≤ s.cfg.capMax) (hmult : s.cap.toNat % s.ch.toNat ≠ 0) :
    configureError s = some .cfgCapNotMultCh := by
  rw [configureError, if_neg hzero, if_neg hmax.not_gt, if_pos hmult]

theorem configureError_cfgFrameGtCap (hzero : ¬ (s.cap.toNat = 0 ∨ s.flen.toNat = 0 ∨ s.ch.toNat = 0))
    (hmax : s.cap.toNat ≤ s.cfg.capMax) (hmult : s.cap.toNat % s.ch.toNat = 0)
    (hsize : s.cap.toNat < frameSize s) : configureError s = some .cfgFrameGtCap := by
  rw [configureError, if_neg hzero, if_neg hmax.not_gt, if_neg (not_not.2 hmult), if_pos hsize]

/-! ## CONFIGURE with BUSY = 0 -/

theorem exec_configure_of_error {e : ErrCode} (hidle : Idle s) (he : configureError s = some e) :
    exec .configure s = .next (signalError e (setConfigured false s)) := by
  have hrun : exec .configure s = configureCmd s := hostWrite_idle hidle
  rw [hrun, configureCmd, he]
  rfl

theorem exec_configure_of_ok (hidle : Idle s) (hok : configureError s = none) :
    exec .configure s = .next (startPass s) := by
  have hrun : exec .configure s = configureCmd s := hostWrite_idle hidle
  rw [hrun, configureCmd, hok]

/-! ## The statements -/

/-- Settles O31: the body of NOP answers the same state, and with BUSY = 1 it does not run. -/
theorem nopHasNoEffect : Obligations.NopHasNoEffect :=
  ⟨decodeCmd_plainWord rfl, fun _ => ⟨hostWrite_idle, hostWrite_busy⟩⟩

/-- Settles O33: the first check that fails gives the error; when none does, the pass starts (`configureError_none`). -/
theorem configureChecksAndResult : Obligations.ConfigureChecksAndResult := by
  intro s hidle
  have fails {e : ErrCode} (he : configureError s = some e) :
      exec .configure s = .next (signalError e (setConfigured false s)) := exec_configure_of_error hidle he
  refine ⟨fun hzero => fails (configureError_cfgZero (geometry_zero_iff.1 hzero)), fun hcap hflen hch => ?_⟩
  have hzero : ¬ (s.cap.toNat = 0 ∨ s.flen.toNat = 0 ∨ s.ch.toNat = 0) :=
    geometry_zero_iff.not.1 (by simp [hcap, hflen, hch])
  refine ⟨fun hmax => fails (configureError_cfgCapRange hzero hmax), fun hmax =>
    ⟨fun hmult => fails (configureError_cfgCapNotMultCh hzero hmax hmult), fun hmult =>
      ⟨fun hsize => fails (configureError_cfgFrameGtCap hzero hmax hmult hsize), fun hsize => ?_⟩⟩⟩
  have hok : configureError s = none :=
    configureError_none.2 ⟨by omega, by omega, by omega, hmax, hmult, hsize⟩
  exact exec_configure_of_ok hidle hok

/-- Settles O34: the body of SOFT_RESET is the state equation of R101. -/
theorem softResetValues : Obligations.SoftResetValues :=
  fun _ => hostWrite_idle

end Sys2Proof.Machine
end

section
/-! PROOFS of the depth reducer family: the reduction function in closed form (R102 to R105), what REDUCE and
REDUCE_ST write (R106, R107), and the bounds of the damped value. First an equation for each step of the reduction;
then the bounds; then the statements of the two commands, each by BUSY = 0 letting the command through (R84). -/

namespace Sys2Proof.Machine

variable {s : State}

/-! ## The three steps of the reduction in closed form (R102 to R104) -/

theorem reduceShift_eq (w : Word) : reduceShift w = (w.toInt + 128) / 256 :=
  Int.fdiv_eq_ediv_of_nonneg _ (by decide)

theorem reduceClamp_eq (t : Int) : reduceClamp t = max (-32768) (min t 32767) := by
  unfold reduceClamp clampInt
  split_ifs <;> omega

theorem reduceDamp_eq (damp : Word) (c : Int) :
    reduceDamp damp c =
      (c * ((damp.toNat % 2 ^ 16 : Nat) : Int)).tdiv ((damp.toNat / 2 ^ 16 : Nat) : Int) := by
  rw [reduceDamp, truncDiv, dampNum_eq, dampDen_eq]

/-- The damped value from the numbers of the three steps (R105). -/
theorem reduceValue_eq {damp w : Word} {t c d : Int} (ht : t = (w.toInt + 128) / 256)
    (hc : c = max (-32768) (min t 32767))
    (hd : d = (c * ((damp.toNat % 2 ^ 16 : Nat) : Int)).tdiv ((damp.toNat / 2 ^ 16 : Nat) : Int)) :
    reduceValue damp w = d := by
  rw [reduceValue, reduceDamp_eq, reduceShift_eq, ← ht, reduceClamp_eq, ← hc, ← hd]

theorem reduceSat_eq {w : Word} {t c : Int} (ht : t = (w.toInt + 128) / 256)
    (hc : c = max (-32768) (min t 32767)) : reduceSat w = decide (c ≠ t) := by
  rw [reduceSat, reduceShift_eq, ← ht, reduceClamp_eq, ← hc]

/-! ## Where the clamp acts, and the bounds of the damped value -/

/-- The clamp changes exactly the values outside its range (R103). -/
theorem reduceSat_iff (w : Word) : reduceSat w = true ↔ reduceShift w < -32768 ∨ 32767 < reduceShift w := by
  rw [reduceSat, decide_eq_true_iff, reduceClamp_eq]
  omega

/-- A legal factor takes no value further from 0 (R104). -/
theorem abs_reduceDamp_le {damp : Word} (h : dampLegal damp = true) (c : Int) : |reduceDamp damp c| ≤ |c| := by
  obtain ⟨hden, hnum⟩ : dampDen damp ≠ 0 ∧ dampNum damp ≤ dampDen damp := by simpa [dampLegal] using h
  have hneg : -|c| ≤ 0 := neg_nonpos.2 (abs_nonneg c)
  exact abs_le.2 (tdiv_mul_mem hden hnum (neg_abs_le c) (le_abs_self c) hneg (abs_nonneg c))

theorem reduceValue_zero (damp : Word) : reduceValue damp 0#32 = 0 := by
  have hclamp : reduceClamp (reduceShift 0#32) = 0 := by decide
  rw [reduceValue, hclamp, reduceDamp_eq, zero_mul, Int.zero_tdiv]

/-- Settles O37: the bounds from the damping by a legal factor, the threshold from the clamp's range at t = 32768. -/
theorem reductionBounds : Obligations.ReductionBounds := by
  intro damp w hlegal
  obtain ⟨hlo, hhi⟩ := reduceValue_mem hlegal w
  refine ⟨abs_reduceDamp_le hlegal _, hlo, hhi, fun hw => hw ▸ reduceValue_zero damp, fun hmin hmax => ?_⟩
  rw [reduceSat_iff, reduceShift_eq]
  omega

/-! ## What the two commands answer with BUSY = 0 -/

/-- The update that both commands make, by the three steps of the reduction (R106). -/
theorem writeReduced_eq {t c d : Int} (ht : t = (s.dredIn.toInt + 128) / 256) (hc : c = max (-32768) (min t 32767))
    (hd : d = (c * ((s.damp.toNat % 2 ^ 16 : Nat) : Int)).tdiv ((s.damp.toNat / 2 ^ 16 : Nat) : Int)) :
    writeReduced s = { s with
      dredOut := BitVec.ofInt 32 d
      status := { s.status with sat := s.status.sat || decide (c ≠ t) } } := by
  rw [← reduceSat_eq ht hc, ← reduceValue_eq ht hc hd]
  rfl

theorem reduceStore_of_out_of_range {idx : BitVec 24} (h : s.cfg.capMax ≤ idx.toNat) :
    reduceStore idx s = .next (signalError .ringRange s) :=
  if_pos h

theorem reduceStore_of_in_range {idx : BitVec 24} (h : idx.toNat < s.cfg.capMax) :
    reduceStore idx s = .next { writeReduced s with
      ring := Memory.write s.ring idx.toNat (BitVec.ofInt 16 (reduceValue s.damp s.dredIn)) } :=
  if_neg (by omega)

/-! ## The statements -/

/-- Settles O35: the body of REDUCE is the update `writeReduced`, in closed form. -/
theorem reduceResult : Obligations.ReduceResult := by
  intro s hidle _ t c d ht hc hd
  exact (hostWrite_idle hidle).trans (congrArg Host.Outcome.next (writeReduced_eq ht hc hd))

/-- Settles O36: REDUCE's update with one ring write over it (`Memory.read_write`), or the range error before both. -/
theorem reduceStoreResult : Obligations.ReduceStoreResult := by
  refine fun idx s hidle => ⟨fun hrange => ?_, fun hrange _ t c d ht hc hd => ?_⟩
  · exact (hostWrite_idle hidle).trans (reduceStore_of_out_of_range hrange)
  · have hrun := reduceStore_of_in_range hrange
    rw [reduceValue_eq ht hc hd, writeReduced_eq ht hc hd] at hrun
    refine ⟨_, (hostWrite_idle hidle).trans hrun, rfl, ?_, fun i hi => ?_⟩
    · rw [Memory.read_write, if_pos rfl]
    · exact Memory.read_write_of_ne hi s.ring _

end Sys2Proof.Machine
end

section
/-! PROOFS of the endianness family: what NORMALIZE answers with BUSY = 0 (R110, R111), and that the swap of the ring is
undone by a second one (R112). -/

namespace Sys2Proof.Machine

variable {s : State}

/-! ## The swap of the configured ring (R110) -/

/-- The state with every word below CAP byte-swapped in place and SWAPPED inverted, which `normalizeCmd_of_hostLe` ties to
the command. -/
def swapConfiguredRing (s : State) : State := flipSwapped { s with ring := Memory.swapBelow s.cap.toNat s.ring }

theorem read_swapConfiguredRing_of_lt {i : Nat} (h : i < s.cap.toNat) :
    Memory.read (swapConfiguredRing s).ring i = (Memory.read s.ring i).map swap16 := by
  rw [swapConfiguredRing, flipSwapped_ring, Memory.read_swapBelow, if_pos h]

theorem read_swapConfiguredRing_of_le {i : Nat} (h : s.cap.toNat ≤ i) :
    Memory.read (swapConfiguredRing s).ring i = Memory.read s.ring i :=
  Memory.read_swapBelow_of_le h s.ring

/-- The swap keeps CAP, so a second one acts on the same words. -/
theorem swapConfiguredRing_swapConfiguredRing (s : State) : swapConfiguredRing (swapConfiguredRing s) = s := by
  have hring : (swapConfiguredRing (swapConfiguredRing s)).ring = s.ring := Memory.swapBelow_swapBelow s.ring s.cap.toNat
  have hswapped : (swapConfiguredRing (swapConfiguredRing s)).status.swapped = s.status.swapped :=
    Bool.not_not s.status.swapped
  calc swapConfiguredRing (swapConfiguredRing s)
      = { s with
          ring := (swapConfiguredRing (swapConfiguredRing s)).ring
          status := { s.status with swapped := (swapConfiguredRing (swapConfiguredRing s)).status.swapped } } := rfl
    _ = s := by rw [hring, hswapped]

/-! ## What NORMALIZE answers with BUSY = 0 -/

theorem normalizeCmd_of_unconfigured (h : s.status.configured = false) :
    normalizeCmd s = .next (signalError .notConfigured s) :=
  if_neg (ne_true_of_eq_false h)

theorem normalizeCmd_of_hostBe (hconf : s.status.configured = true) (hbe : s.cfg.hostLe = false) :
    normalizeCmd s = .next s :=
  (if_pos hconf).trans (if_neg (ne_true_of_eq_false hbe))

theorem normalizeCmd_of_hostLe (hconf : s.status.configured = true) (hle : s.cfg.hostLe = true) :
    normalizeCmd s = .next (swapConfiguredRing s) :=
  (if_pos hconf).trans (if_pos hle)

theorem exec_normalize_of_idle (hidle : Idle s) : exec .normalize s = normalizeCmd s :=
  hostWrite_idle hidle

theorem exec_normalize_of_hostLe (hidle : Idle s) (hconf : s.status.configured = true) (hle : s.cfg.hostLe = true) :
    exec .normalize s = .next (swapConfiguredRing s) :=
  (exec_normalize_of_idle hidle).trans (normalizeCmd_of_hostLe hconf hle)

/-! ## The statements -/

/-- Settles O38: one outcome of the command per clause, and the swapped ring read word by word. -/
theorem normalizeResult : Obligations.NormalizeResult := by
  intro s hidle
  rw [exec_normalize_of_idle hidle]
  exact ⟨normalizeCmd_of_unconfigured, normalizeCmd_of_hostBe, fun hconf hle =>
    ⟨swapConfiguredRing s, normalizeCmd_of_hostLe hconf hle, rfl,
      fun _ => read_swapConfiguredRing_of_lt, fun _ => read_swapConfiguredRing_of_le⟩⟩

/-- Settles O39: with P_HOST_LE = 0 the command changes nothing; with P_HOST_LE = 1 it swaps, which leaves the block
idle, configured and with the same strap, so the second command swaps back. -/
theorem normalizeTwiceRestores : Obligations.NormalizeTwiceRestores := by
  intro s hidle hconf
  cases hle : s.cfg.hostLe with
  | false =>
    have hrun : exec .normalize s = .next s :=
      (exec_normalize_of_idle hidle).trans (normalizeCmd_of_hostBe hconf hle)
    exact ⟨s, hrun, hrun⟩
  | true =>
    refine ⟨swapConfiguredRing s, exec_normalize_of_hostLe hidle hconf hle, ?_⟩
    calc exec .normalize (swapConfiguredRing s)
        = .next (swapConfiguredRing (swapConfiguredRing s)) := exec_normalize_of_hostLe hidle hconf hle
      _ = .next s := by rw [swapConfiguredRing_swapConfiguredRing]

end Sys2Proof.Machine
end

section
/-! PROOFS of the segmenter family, first half: the words of a frame by their ring index (R116 to R119, R128), what
NEXT_FRAME answers with BUSY = 0, and what each kind of sink result answers (R122 to R126). -/

namespace Sys2Proof.Machine

variable {s : State}

/-! ## The words that a plan takes from the ring (R116) -/

/-- The ring index of a plan's j-th word: first the tail from the start on, then the head from word 0 on.
`gatherFrame_eq_some_iff` ties it to the gather of R116. -/
def FramePlan.index (p : FramePlan) (j : Nat) : Nat := if j < p.tail then p.start + j else j - p.tail

theorem FramePlan.index_of_lt {p : FramePlan} {j : Nat} (h : j < p.tail) : p.index j = p.start + j := if_pos h

theorem FramePlan.index_of_le {p : FramePlan} {j : Nat} (h : p.tail ≤ j) : p.index j = j - p.tail := if_neg h.not_gt

theorem gatherFrame_eq_some_iff {m : Memory} {p : FramePlan} {f : List Sample} :
    gatherFrame m p = some f ↔
      f.length = p.tail + p.head ∧ ∀ j, j < p.tail + p.head → f[j]? = Memory.read m (p.index j) := by
  constructor
  · intro h
    refine ⟨gatherFrame_length h, fun j hj => ?_⟩
    obtain ⟨a, b, ha, hb, rfl⟩ := gatherFrame_eq_some h
    obtain ⟨hla, hra⟩ := (Memory.gather_eq_some_iff ..).1 ha
    obtain ⟨hlb, hrb⟩ := (Memory.gather_eq_some_iff ..).1 hb
    by_cases hjt : j < p.tail
    · rw [p.index_of_lt hjt, List.getElem?_append_left (by omega), hra j hjt]
    · rw [p.index_of_le (by omega), List.getElem?_append_right (by omega), hla, hrb _ (by omega), Nat.zero_add]
  · rintro ⟨hlen, hwords⟩
    have htail : Memory.gather m p.start p.tail = some (f.take p.tail) := by
      refine (Memory.gather_eq_some_iff ..).2 ⟨by rw [List.length_take]; omega, fun j hj => ?_⟩
      rw [List.getElem?_take_of_lt hj, hwords j (by omega), p.index_of_lt hj]
    have hhead : Memory.gather m 0 p.head = some (f.drop p.tail) := by
      refine (Memory.gather_eq_some_iff ..).2 ⟨by rw [List.length_drop]; omega, fun j hj => ?_⟩
      rw [List.getElem?_drop, hwords _ (by omega), p.index_of_le (by omega), Nat.add_sub_cancel_left, Nat.zero_add]
    simp only [gatherFrame, htail, hhead, List.take_append_drop]

/-- The gather stops exactly at a ⊥ word, in the tail or in the head (R119). -/
theorem gatherFrame_eq_none_iff {m : Memory} {p : FramePlan} :
    gatherFrame m p = none ↔ ∃ j, j < p.tail + p.head ∧ Memory.read m (p.index j) = none := by
  constructor
  · intro h
    cases ha : Memory.gather m p.start p.tail with
    | none =>
      obtain ⟨j, hj, hread⟩ := (Memory.gather_eq_none_iff ..).1 ha
      exact ⟨j, by omega, by rw [p.index_of_lt hj, hread]⟩
    | some a =>
      cases hb : Memory.gather m 0 p.head with
      | none =>
        obtain ⟨j, hj, hread⟩ := (Memory.gather_eq_none_iff ..).1 hb
        exact ⟨p.tail + j, by omega, by rw [p.index_of_le (by omega), Nat.add_sub_cancel_left, ← hread, Nat.zero_add]⟩
      | some b => simp [gatherFrame, ha, hb] at h
  · rintro ⟨j, hj, hread⟩
    refine Option.eq_none_iff_forall_ne_some.2 fun f hf => ?_
    obtain ⟨hlen, hwords⟩ := gatherFrame_eq_some_iff.1 hf
    have hnone : f[j]? = none := (hwords j hj).trans hread
    rw [List.getElem?_eq_none_iff] at hnone
    omega

/-! ## The plan of the next frame (R116 to R118) -/

theorem framePlan_of_contiguous (h : s.cursor.toNat + frameSize s ≤ s.cap.toNat) :
    framePlan s = ⟨s.cursor.toNat, frameSize s, 0, false⟩ :=
  if_pos h

theorem framePlan_of_splice (h : s.cap.toNat < s.cursor.toNat + frameSize s) :
    framePlan s =
      ⟨s.cursor.toNat, s.cap.toNat - s.cursor.toNat, frameSize s - (s.cap.toNat - s.cursor.toNat), true⟩ :=
  if_neg h.not_ge

theorem framePlan_size (hcursor : s.cursor.toNat ≤ s.cap.toNat) :
    (framePlan s).tail + (framePlan s).head = frameSize s := by
  obtain ⟨hplan, -⟩ | ⟨tail, head, hplan, hparts, -⟩ := framePlan_cases hcursor <;> rw [hplan]
  · rfl
  · exact hparts

/-- A frame's words are the ring's from CURSOR on, and from word 0 on past the wrap point. -/
theorem framePlan_index {j : Nat} (hcursor : s.cursor.toNat ≤ s.cap.toNat) (hj : j < frameSize s) :
    (framePlan s).index j =
      if s.cursor.toNat + j < s.cap.toNat then s.cursor.toNat + j else s.cursor.toNat + j - s.cap.toNat := by
  by_cases hend : s.cursor.toNat + frameSize s ≤ s.cap.toNat
  · rw [framePlan_of_contiguous hend, FramePlan.index_of_lt hj, if_pos (by omega)]
  · simp only [framePlan_of_splice (not_le.1 hend), FramePlan.index]
    split_ifs <;> omega

/-- The wrap point is passed at most once in a frame no larger than the ring (R128). -/
theorem framePlan_index_eq_mod {j : Nat} (hcursor : s.cursor.toNat ≤ s.cap.toNat)
    (hsize : frameSize s ≤ s.cap.toNat) (hj : j < frameSize s) :
    (framePlan s).index j = (s.cursor.toNat + j) % s.cap.toNat := by
  rw [framePlan_index hcursor hj]
  split_ifs with hlt
  · exact (Nat.mod_eq_of_lt hlt).symm
  · rw [Nat.mod_eq_sub_mod (by omega), Nat.mod_eq_of_lt (by omega)]

/-- A gathered frame is the window of N words at CURSOR of the ring repeated (R127, R128). -/
theorem gatherFrame_framePlan_window {f : List Sample} (hcursor : s.cursor.toNat ≤ s.cap.toNat)
    (hsize : frameSize s ≤ s.cap.toNat) (hf : gatherFrame s.ring (framePlan s) = some f) :
    f.length = frameSize s ∧
      ∀ j, j < frameSize s → f[j]? = Memory.read s.ring ((s.cursor.toNat + j) % s.cap.toNat) := by
  obtain ⟨hlen, hwords⟩ := gatherFrame_eq_some_iff.1 hf
  rw [framePlan_size hcursor] at hlen hwords
  exact ⟨hlen, fun j hj => framePlan_index_eq_mod hcursor hsize hj ▸ hwords j hj⟩

/-! ## NEXT_FRAME with BUSY = 0 -/

theorem exec_nextFrame_of_idle (hidle : Idle s) : exec .nextFrame s = issueFrame s :=
  hostWrite_idle hidle

theorem exec_nextFrame_of_gathered {f : List Sample} (hidle : Idle s) (hconf : s.status.configured = true)
    (hf : gatherFrame s.ring (framePlan s) = some f) :
    exec .nextFrame s = .next (presentFrame (framePlan s) f s) := by
  rw [exec_nextFrame_of_idle hidle, issueFrame, if_pos hconf, hf]

theorem exec_nextFrame_of_unwritten (hidle : Idle s) (hconf : s.status.configured = true)
    (hf : gatherFrame s.ring (framePlan s) = none) : exec .nextFrame s = .fault .uninitRead := by
  rw [exec_nextFrame_of_idle hidle, issueFrame, if_pos hconf, hf]

/-- Settles O44: the words that NEXT_FRAME gathered are a window of the ring (`gatherFrame_framePlan_window`). -/
theorem frameIsRingWindow : Obligations.FrameIsRingWindow := by
  intro s t ⟨_, _, _, hgeo, _⟩ hidle hconf h
  obtain ⟨-, -, hsize, -, -, hcursor⟩ := hgeo hconf
  rw [exec_nextFrame_of_idle hidle] at h
  obtain ⟨hunconf, -⟩ | ⟨-, f, hf, rfl⟩ := issueFrame_next h
  · exact nomatch hconf.symm.trans hunconf
  · exact gatherFrame_framePlan_window hcursor hsize hf

/-- Settles O41: the plan of a contiguous frame, whose words are the ring's from CURSOR on. -/
theorem contiguousIssue : Obligations.ContiguousIssue := by
  intro s f hidle hconf hend hlen hwords
  have hplan := framePlan_of_contiguous hend
  have hf : gatherFrame s.ring (framePlan s) = some f := by
    rw [hplan]
    refine gatherFrame_eq_some_iff.2 ⟨hlen, fun j hj => ?_⟩
    rw [FramePlan.index_of_lt hj]
    exact hwords j (hlen ▸ hj)
  have htail : BitVec.ofNat 32 (frameSize s) = s.flen * s.ch := by
    rw [frameSize, BitVec.ofNat_mul, BitVec.ofNat_toNat, BitVec.ofNat_toNat, BitVec.setWidth_eq, BitVec.setWidth_eq]
  rw [exec_nextFrame_of_gathered hidle hconf hf, hplan, ← htail]
  rfl

/-- Settles O42: the plan of a splice, whose words are the ring's tail and then its head. -/
theorem spliceIssue : Obligations.SpliceIssue := by
  rintro s f tail head hidle hconf - hend rfl rfl hlen htail hhead
  have hplan := framePlan_of_splice hend
  have hf : gatherFrame s.ring (framePlan s) = some f := by
    rw [hplan]
    refine gatherFrame_eq_some_iff.2 ⟨hlen, fun j hj => ?_⟩
    by_cases hjt : j < s.cap.toNat - s.cursor.toNat
    · rw [FramePlan.index_of_lt hjt]
      exact htail j hjt
    · obtain ⟨i, rfl⟩ := Nat.exists_eq_add_of_le (not_lt.1 hjt)
      rw [FramePlan.index_of_le (Nat.le_add_right _ i), Nat.add_sub_cancel_left]
      exact hhead i (Nat.lt_of_add_lt_add_left hj)
  rw [exec_nextFrame_of_gathered hidle hconf hf, hplan]
  rfl

/-- Settles O43: the configuration check comes first, and the gather stops at the ⊥ word (`framePlan_index`). -/
theorem issueStops : Obligations.IssueStops := by
  refine fun s hidle => ⟨fun hunconf => ?_, fun j hconf hcursor hj hread => ?_⟩
  · exact (exec_nextFrame_of_idle hidle).trans (if_neg (ne_true_of_eq_false hunconf))
  · have hindex := framePlan_index hcursor hj
    have hplanned := hj.trans_eq (framePlan_size hcursor).symm
    exact exec_nextFrame_of_unwritten hidle hconf (gatherFrame_eq_none_iff.2 ⟨j, hplanned, hindex ▸ hread⟩)

/-! ## What each kind of sink result does (R122 to R126) -/

/-- CURSOR after an accepted count of groups, by the kind of frame. `complete_of_accepted` ties it to the completion. -/
def acceptedCursor (r : Word) (s : State) : Word :=
  if s.status.wrap then s.cursor else BitVec.ofNat 32 (s.cursor.toNat + r.toNat * s.ch.toNat)

theorem acceptedCursor_of_splice (r : Word) (hwrap : s.status.wrap = true) : acceptedCursor r s = s.cursor :=
  if_pos hwrap

/-- After a contiguous frame CURSOR goes on by r·CH, without a wrap in 32 bits, since the frame ends inside the ring. -/
theorem acceptedCursor_of_contiguous {r : Word} (hr0 : 0 ≤ r.toInt) (hr : r.toInt ≤ s.flen.toNat)
    (hwrap : s.status.wrap = false) (hend : s.cursor.toNat + frameSize s ≤ s.cap.toNat) :
    (acceptedCursor r s).toNat = s.cursor.toNat + r.toNat * s.ch.toNat := by
  have hconsumed := consumed_le_frameSize hr0 hr
  rw [acceptedCursor, if_neg (ne_true_of_eq_false hwrap)]
  exact Nat.mod_eq_of_lt (by omega)

theorem complete_of_negative {r : Word} (h : r.toInt < 0) :
    complete r s = signalError .sinkFailure (endFrame r false s.cursor s) := by
  rw [complete, settleFrame, if_pos h]
  rfl

theorem complete_of_above_flen {r : Word} (h : (s.flen.toNat : Int) < r.toInt) :
    complete r s = signalError .sinkProtocol (endFrame r false s.cursor s) := by
  rw [complete, settleFrame, if_neg (by omega), if_pos h]
  rfl

/-- An accepted count ends the frame with CURSOR as the kind of frame has it (R123, R124). -/
theorem complete_of_accepted {r : Word} (hr0 : 0 ≤ r.toInt) (hr : r.toInt ≤ s.flen.toNat) :
    complete r s = endFrame r (isShort r s.flen) (acceptedCursor r s) s := by
  obtain ⟨h, -⟩ | ⟨h, -⟩ | ⟨-, -, hwrap, h⟩ | ⟨-, -, hwrap, h⟩ := settleFrame_cases r { s with lastRes := r }
  · exact absurd h hr0.not_gt
  · exact absurd h hr.not_gt
  · rw [complete, h, acceptedCursor_of_splice (s := s) r hwrap]
    rfl
  · rw [complete, h, acceptedCursor, if_neg (ne_true_of_eq_false hwrap)]
    rfl

/-! ## The sink's step -/

theorem step_of_sink {r : Word} {rest : List Input} (hin : s.inputs = .sink r :: rest) :
    step s = .next (answerSink r { s with inputs := rest }) := by
  simp only [step, takeInput_some.2 ⟨rest, hin, rfl⟩]

theorem step_of_sink_busy {r : Word} {rest : List Input} (hin : s.inputs = .sink r :: rest)
    (hbusy : s.status.busy = true) : step s = .next (complete r { s with inputs := rest }) :=
  (step_of_sink hin).trans (congrArg Host.Outcome.next (if_pos hbusy))

theorem step_of_sink_accepted {r : Word} {rest : List Input} (hin : s.inputs = .sink r :: rest)
    (hbusy : s.status.busy = true) (hr0 : 0 ≤ r.toInt) (hr : r.toInt ≤ s.flen.toNat) :
    step s = .next (endFrame r (isShort r s.flen) (acceptedCursor r s) { s with inputs := rest }) :=
  (step_of_sink_busy hin hbusy).trans
    (congrArg Host.Outcome.next (complete_of_accepted (s := { s with inputs := rest }) hr0 hr))

/-- Settles O9: with BUSY = 0 there is no frame for the result to complete (R121). -/
theorem lateSinkResultDiscarded : Obligations.LateSinkResultDiscarded :=
  fun _ _ _ hidle hin => (step_of_sink hin).trans (congrArg Host.Outcome.next (if_neg (ne_true_of_eq_false hidle)))

/-- Settles O46: the accepted count moves CURSOR inside the pending frame, which ends at or before CAP (`PendingOk`). -/
theorem contiguousCompletion : Obligations.ContiguousCompletion := by
  intro s r rest ⟨_, _, _, _, _, hpend, _⟩ hin hbusy hwrap hr0 hr
  obtain ⟨-, -, -, hcontiguous, -⟩ := hpend hbusy
  obtain ⟨-, hend⟩ := hcontiguous hwrap
  have hconsumed := consumed_le_frameSize hr0 hr
  have hcursor := acceptedCursor_of_contiguous hr0 hr hwrap hend
  exact ⟨_, step_of_sink_accepted hin hbusy hr0 hr, rfl, hcursor, hcursor.trans_le (by omega)⟩

/-- Settles O47: an accepted count leaves CURSOR after a splice. -/
theorem splicedCompletion : Obligations.SplicedCompletion := by
  intro s r rest hin hbusy hwrap hr0 hr
  rw [step_of_sink_accepted hin hbusy hr0 hr, acceptedCursor_of_splice r hwrap]
  rfl

/-- Settles O48: the frame ends with CURSOR unmoved and the error signalled. -/
theorem failedCompletion : Obligations.FailedCompletion := by
  intro s r rest hin hbusy
  rw [step_of_sink_busy hin hbusy]
  exact ⟨fun hneg => congrArg Host.Outcome.next (complete_of_negative hneg),
    fun habove => congrArg Host.Outcome.next (complete_of_above_flen habove)⟩

end Sys2Proof.Machine
end

section
/-! PROOFS of the segmenter family, second half: playback with full writes (R128, R129). One frame played is the next N
words of the ring repeated; played stretches join, so k frames are the next k·N words. -/

namespace Sys2Proof.Machine

variable {s t u : State}

/-! ## Stretches of playback -/

/-- A state from which frames can be played: the premise of R128 without the cursor at 0. -/
structure Playable (s : State) : Prop where
  inv : Inv s
  idle : Idle s
  configured : s.status.configured = true
  loaded : RingLoaded s

/-- `Played s n ws t`: from `s` to `t` the `n` words `ws` went out, which are the ring's from CURSOR on, taken modulo CAP;
CURSOR went on by as much modulo CAP, and once a word went out it is not 0 again. -/
structure Played (s : State) (n : Nat) (ws : List Sample) (t : State) : Prop where
  playable : Playable t
  ring : t.ring = s.ring
  cap : t.cap = s.cap
  size : frameSize t = frameSize s
  cursor : t.cursor.toNat ≡ s.cursor.toNat + n [MOD s.cap.toNat]
  cursor_pos : 1 ≤ s.cursor.toNat + n → 1 ≤ t.cursor.toNat
  length : ws.length = n
  words : ∀ j, j < n → ws[j]? = Memory.read s.ring ((s.cursor.toNat + j) % s.cap.toNat)

theorem Playable.geometry (hs : Playable s) :
    1 ≤ frameSize s ∧ s.flen.toNat ≤ frameSize s ∧ frameSize s ≤ s.cap.toNat ∧ s.cap.toNat ≤ 2 ^ 24 ∧
      s.cursor.toNat ≤ s.cap.toNat := by
  obtain ⟨⟨-, hmax, -⟩, -, -, hgeo, -⟩ := hs.inv
  obtain ⟨hflen, hch, hsize, hcap, -, hcursor⟩ := hgeo hs.configured
  have hle : s.flen.toNat ≤ frameSize s := Nat.le_mul_of_pos_right _ hch
  exact ⟨hflen.trans hle, hle, hsize, hcap.trans hmax, hcursor⟩

theorem Played.refl (hs : Playable s) : Played s 0 [] s :=
  ⟨hs, rfl, rfl, rfl, rfl, id, rfl, nofun⟩

theorem Played.trans {m n : Nat} {vs ws : List Sample} (h : Played s m vs t) (h' : Played t n ws u) :
    Played s (m + n) (vs ++ ws) u where
  playable := h'.playable
  ring := h'.ring.trans h.ring
  cap := h'.cap.trans h.cap
  size := h'.size.trans h.size
  cursor := by
    have hlast := h'.cursor
    rw [h.cap] at hlast
    rw [← Nat.add_assoc]
    exact hlast.trans (h.cursor.add_right n)
  cursor_pos hpos := by
    have hfirst := h.cursor_pos
    have hlast := h'.cursor_pos
    omega
  length := by rw [List.length_append, h.length, h'.length]
  words j hj := by
    by_cases hjm : j < m
    · rw [List.getElem?_append_left (h.length ▸ hjm), h.words j hjm]
    · have hindex : t.cursor.toNat + (j - m) ≡ s.cursor.toNat + j [MOD s.cap.toNat] := by
        have hadd := h.cursor.add_right (j - m)
        rwa [show s.cursor.toNat + m + (j - m) = s.cursor.toNat + j by omega] at hadd
      have hword := h'.words (j - m) (by omega)
      rw [List.getElem?_append_right (by rw [h.length]; omega), h.length, hword, h.ring, h.cap, hindex]

/-! ## One frame -/

theorem after_of_step {x : Input} (h : step { s with inputs := [x] } = .next t) : after x s = some t := by
  rw [after, h]

/-- The frame `f` of the next plan with the sink, and nothing else to come. -/
def issuedFrame (f : List Sample) (s : State) : State := presentFrame (framePlan s) f { s with inputs := [] }

/-- The state after the frame `f` was issued from `s` and accepted whole (`Playable.playFullFrame_eq`). -/
def afterFullFrame (f : List Sample) (s : State) : State :=
  endFrame s.flen (isShort s.flen s.flen) (acceptedCursor s.flen (issuedFrame f s)) (issuedFrame f s)

/-- FLEN is an accepted count: it is within CAP, so as a result it is not negative. -/
theorem Playable.flen_accepted (hs : Playable s) : 0 ≤ s.flen.toInt ∧ s.flen.toInt ≤ s.flen.toNat := by
  obtain ⟨-, hflen, hsize, hcap, -⟩ := hs.geometry
  rw [BitVec.toInt_eq_toNat_of_lt (by omega)]
  exact ⟨Int.natCast_nonneg _, le_rfl⟩

theorem Playable.playFullFrame_eq {f : List Sample} (hs : Playable s)
    (hf : gatherFrame s.ring (framePlan s) = some f) : playFullFrame s = some (f, afterFullFrame f s) := by
  obtain ⟨hr0, hr⟩ := hs.flen_accepted
  have hissue : after (hostOp .nextFrame) s = some (issuedFrame f s) := by
    refine after_of_step ((step_of_decode_ok rfl (decodeEncodeAgree .nextFrame rfl)).trans ?_)
    exact exec_nextFrame_of_gathered (s := { s with inputs := [] }) hs.idle hs.configured hf
  have hanswer : after (.sink s.flen) (issuedFrame f s) = some (afterFullFrame f s) :=
    after_of_step (step_of_sink_accepted rfl rfl hr0 hr)
  have hflen : (issuedFrame f s).flen = s.flen := rfl
  rw [playFullFrame, hissue]
  simp only [hflen, hanswer]
  rfl

/-- A frame accepted whole takes CURSOR on by N, less CAP where that passes it (R123, R124). -/
theorem Playable.afterFullFrame_cursor (hs : Playable s) (f : List Sample) :
    (afterFullFrame f s).cursor.toNat =
      if s.cursor.toNat + frameSize s ≤ s.cap.toNat then s.cursor.toNat + frameSize s
      else s.cursor.toNat + frameSize s - s.cap.toNat := by
  obtain ⟨-, -, hsize, hcap, hcursor⟩ := hs.geometry
  obtain ⟨hr0, hr⟩ := hs.flen_accepted
  change (acceptedCursor s.flen (issuedFrame f s)).toNat = _
  split_ifs with hend
  · rw [issuedFrame, framePlan_of_contiguous hend]
    exact acceptedCursor_of_contiguous (s := presentFrame _ f { s with inputs := [] }) hr0 hr rfl hend
  · have hhead : frameSize s - (s.cap.toNat - s.cursor.toNat) = s.cursor.toNat + frameSize s - s.cap.toNat := by omega
    have hfits : s.cursor.toNat + frameSize s - s.cap.toNat < 2 ^ 32 := by omega
    rw [issuedFrame, framePlan_of_splice (not_le.1 hend), acceptedCursor_of_splice s.flen rfl, hhead]
    exact Nat.mod_eq_of_lt hfits

theorem Playable.afterFullFrame {f : List Sample} (hs : Playable s)
    (hf : gatherFrame s.ring (framePlan s) = some f) : Playable (afterFullFrame f s) := by
  have hissued : Inv (issuedFrame f s) := Inv.presentFrame (s := { s with inputs := [] }) hs.inv hs.configured hf
  have hinside : (Machine.afterFullFrame f s).cursor.toNat ≤ s.cap.toNat := by
    obtain ⟨-, -, hsize, -, hcursor⟩ := hs.geometry
    rw [hs.afterFullFrame_cursor]
    split_ifs <;> omega
  exact ⟨hissued.endFrame _ _ fun _ => hinside, rfl, hs.configured, hs.loaded⟩

/-- In a loaded ring no frame meets ⊥. -/
theorem Playable.gathers (hs : Playable s) : ∃ f, gatherFrame s.ring (framePlan s) = some f := by
  obtain ⟨hpos, -, hsize, -, hcursor⟩ := hs.geometry
  refine Option.ne_none_iff_exists'.1 fun hnone => ?_
  obtain ⟨j, hj, hread⟩ := gatherFrame_eq_none_iff.1 hnone
  rw [framePlan_size hcursor] at hj
  have hwritten := hs.loaded _ (Nat.mod_lt (s.cursor.toNat + j) (by omega))
  rw [← framePlan_index_eq_mod hcursor hsize hj, hread] at hwritten
  exact nomatch hwritten

theorem Playable.playFullFrame (hs : Playable s) :
    ∃ ws t, playFullFrame s = some (ws, t) ∧ Played s (frameSize s) ws t := by
  obtain ⟨hpos, -, hsize, -, hcursor⟩ := hs.geometry
  obtain ⟨f, hf⟩ := hs.gathers
  obtain ⟨hlen, hwords⟩ := gatherFrame_framePlan_window hcursor hsize hf
  have hnext := hs.afterFullFrame_cursor f
  refine ⟨f, _, hs.playFullFrame_eq hf, hs.afterFullFrame hf, rfl, rfl, rfl, ?_, fun _ => ?_, hlen, hwords⟩ <;>
    rw [hnext] <;> split_ifs with hend
  · rfl
  · exact (Nat.mod_eq_sub_mod (by omega)).symm
  · omega
  · omega

/-! ## k frames -/

theorem playFullFrames_succ {k : Nat} {vs ws : List Sample} (h : playFullFrame s = some (vs, t))
    (h' : playFullFrames k t = some (ws, u)) : playFullFrames (k + 1) s = some (vs ++ ws, u) := by
  rw [playFullFrames, h]
  simp only [h', Option.map_some]

theorem Playable.playFullFrames (k : Nat) (hs : Playable s) :
    ∃ ws t, playFullFrames k s = some (ws, t) ∧ Played s (k * frameSize s) ws t := by
  induction k generalizing s with
  | zero => exact ⟨[], s, rfl, (Nat.zero_mul (frameSize s)).symm ▸ .refl hs⟩
  | succ k ih =>
    obtain ⟨vs, t, hrun, hfirst⟩ := hs.playFullFrame
    obtain ⟨ws, u, hrun', hrest⟩ := ih hfirst.playable
    refine ⟨vs ++ ws, u, playFullFrames_succ hrun hrun', ?_⟩
    rw [Nat.succ_mul, Nat.add_comm]
    exact hfirst.trans (hfirst.size ▸ hrest)

/-- The one position in 1 .. CAP that is `n` modulo CAP, for a positive `n`. -/
theorem eq_pred_mod_add_one {c n p : Nat} (hp : 1 ≤ p) (hpc : p ≤ c) (hn : 1 ≤ n) (h : p ≡ n [MOD c]) :
    p = (n - 1) % c + 1 := by
  obtain ⟨q, rfl⟩ := Nat.exists_eq_add_of_le' hp
  obtain ⟨m, rfl⟩ := Nat.exists_eq_add_of_le' hn
  have hmod : q % c = m % c := Nat.ModEq.add_right_cancel' 1 h
  rw [Nat.add_sub_cancel, ← hmod, Nat.mod_eq_of_lt hpc]

/-- Settles O49: CURSOR is in 1 .. CAP and is k·N modulo CAP. -/
theorem cursorAfterFullFrames : Obligations.CursorAfterFullFrames := by
  intro s k hi hidle hconf hzero hloaded hk
  have hs : Playable s := ⟨hi, hidle, hconf, hloaded⟩
  obtain ⟨ws, t, hrun, hplayed⟩ := hs.playFullFrames k
  obtain ⟨hpos, -⟩ := hs.geometry
  obtain ⟨-, -, -, -, hcursor⟩ := hplayed.playable.geometry
  have hn : 1 ≤ k * frameSize s := Nat.mul_pos hk hpos
  have hstart : s.cursor.toNat + k * frameSize s = k * frameSize s := by rw [hzero]; exact Nat.zero_add _
  have hmod := hplayed.cursor
  rw [hstart] at hmod
  exact ⟨ws, t, hrun, eq_pred_mod_add_one (hplayed.cursor_pos (by omega)) (hplayed.cap ▸ hcursor) hn hmod⟩

/-- Settles O50: the k·N words played, from CURSOR 0. -/
theorem phaseContinuity : Obligations.PhaseContinuity := by
  intro s k hi hidle hconf hzero hloaded
  obtain ⟨ws, t, hrun, hplayed⟩ := Playable.playFullFrames k ⟨hi, hidle, hconf, hloaded⟩
  refine ⟨ws, t, hrun, hplayed.ring, hplayed.length, fun j hj => ?_⟩
  have hstart : s.cursor.toNat + j = j := by rw [hzero]; exact Nat.zero_add j
  rw [hplayed.words j hj, hstart]

end Sys2Proof.Machine
end

section
/-! PROOFS of the exceptions family: what signalling an error does (R131), the codes (R132), and that the first code is
kept for as long as ERR is 1 (R137). The latch goes by the cases of a command, of a host instruction, of a sink result
and of a step: each leaves ERRCODE, or it is one of the requests that end with ERR = 0. -/

namespace Sys2Proof.Machine

variable {s t : State}

/-! ## Error signalling -/

theorem signalError_of_clear (e : ErrCode) (h : s.status.err = false) :
    signalError e s = { s with errcode := e, status := { s.status with err := true } } := by
  rw [signalError, if_neg (ne_true_of_eq_false h)]

/-- A later error while ERR = 1 leaves no trace. -/
theorem signalError_of_err (e : ErrCode) (h : s.status.err = true) : signalError e s = s := by
  have hstatus : { s.status with err := true } = s.status := by rw [← h]
  rw [signalError, if_pos h, hstatus]

/-- Settles O21: the two cases of ERR. -/
theorem errorSignalling : Obligations.ErrorSignalling :=
  fun e _ => ⟨rfl, signalError_of_clear e, signalError_of_err e⟩

/-- Settles O22: each code in the table. -/
theorem errorCodeTable : Obligations.ErrorCodeTable := rfl

/-! ## The latch -/

/-- Of the commands only SOFT_RESET touches a recorded code, and it clears ERR. A failing CONFIGURE signals from the
state in which it has cleared CONFIGURED (R100). -/
theorem execCmd_errcode {c : Command} (herr : s.status.err = true) (h : execCmd c s = .next t) :
    t.errcode = s.errcode ∨ t.status.err = false := by
  cases c with
  | bad => exact .inl (Host.Outcome.next.inj h ▸ signalError_errcode_of_err herr)
  | nop | reduce => exact .inl (Host.Outcome.next.inj h ▸ rfl)
  | configure =>
    obtain ⟨e, -, rfl⟩ | ⟨-, rfl⟩ := configureCmd_next h
    · exact .inl (signalError_errcode_of_err (s := setConfigured false s) herr)
    · exact .inl rfl
  | nextFrame =>
    obtain ⟨-, rfl⟩ | ⟨-, f, -, rfl⟩ := issueFrame_next h
    · exact .inl (signalError_errcode_of_err herr)
    · exact .inl rfl
  | normalize =>
    obtain ⟨-, rfl⟩ | ⟨-, -, rfl⟩ | ⟨-, -, rfl⟩ := normalizeCmd_next h
    · exact .inl (signalError_errcode_of_err herr)
    · exact .inl rfl
    · exact .inl rfl
  | reduceSt =>
    obtain ⟨-, rfl⟩ | ⟨-, rfl⟩ := reduceStore_next h
    · exact .inl (signalError_errcode_of_err herr)
    · exact .inl rfl
  | softReset =>
    obtain ⟨hstatus, -⟩ := softResetCmd_flags h
    exact .inr (hstatus ▸ rfl)

/-- Bit 2 of the written word clears ERR; without it ERRCODE stays (R87). -/
theorem writeStatus_errcode (v : Word) (s : State) :
    (writeStatus v s).errcode = s.errcode ∨ (writeStatus v s).status.err = false := by
  rw [writeStatus_eq]
  cases hbit : v.getLsbD 2 with
  | false => exact .inl rfl
  | true => exact .inr (Bool.and_false _)

theorem exec_errcode {i : Instr} (herr : s.status.err = true) (h : exec i s = .next t) :
    t.errcode = s.errcode ∨ t.status.err = false := by
  cases exec_next h with
  | plainRead | ignored | capWrite | flenWrite | chWrite | dredInWrite | ringAddrWrite => exact .inl rfl
  | statusWrite v => exact writeStatus_errcode v s
  | dropped => exact .inl (signalError_errcode_of_err herr)
  | command _ _ hrun => exact execCmd_errcode herr hrun
  | ringRead hrun =>
    obtain ⟨-, rfl⟩ | ⟨-, w, -, rfl⟩ := readRing_next hrun
    · exact .inl (signalError_errcode_of_err (e := .ringRange) herr :)
    · exact .inl rfl
  | dampWrite _ hrun =>
    obtain ⟨-, rfl⟩ | ⟨-, rfl⟩ := writeDamp_next hrun
    · exact .inl rfl
    · exact .inl (signalError_errcode_of_err herr)
  | ringWrite _ hrun =>
    obtain ⟨-, rfl⟩ | ⟨-, rfl⟩ := writeRing_next hrun
    · exact .inl (signalError_errcode_of_err herr)
    · exact .inl rfl

/-- SINK_FAILURE and SINK_PROTOCOL are not recorded over an earlier code (R125, R126). -/
theorem complete_errcode (r : Word) (herr : s.status.err = true) : (complete r s).errcode = s.errcode := by
  obtain ⟨e, -, h⟩ | ⟨-, h⟩ | ⟨-, -, -, h⟩ := complete_cases r s <;> rw [h]
  · exact signalError_errcode_of_err (s := endFrame r false s.cursor s) herr
  · rfl
  · rfl

theorem answerSink_errcode (r : Word) (herr : s.status.err = true) : (answerSink r s).errcode = s.errcode := by
  obtain ⟨-, h⟩ | ⟨-, h⟩ := answerSink_cases r s <;> rw [h]
  exact complete_errcode r herr

theorem step_errcode (herr : s.status.err = true) (h : step s = .next t) :
    t.errcode = s.errcode ∨ t.status.err = false := by
  obtain ⟨-, rfl⟩ | ⟨a, rest, i, -, -, hrun⟩ | ⟨r, rest, -, rfl⟩ | ⟨rest, -, rfl⟩ := step_cases h
  · exact .inl rfl
  · exact (exec_errcode (s := { s with inputs := rest }) herr hrun :)
  · exact .inl (answerSink_errcode r (s := { s with inputs := rest }) herr)
  · exact .inr rfl

/-- Settles O56: with ERR still 1 none of the requests that clear it was made (`step_errcode`). -/
theorem firstErrorKept : Obligations.FirstErrorKept := by
  intro s t herr h hstill
  obtain hkept | hclear := step_errcode herr h
  · exact hkept
  · exact absurd hstill (ne_true_of_eq_false hclear)

end Sys2Proof.Machine
end

section
/-! PROOFS of the reset family: what hard reset answers from any state, a frame with the sink or not (R149 to R151). -/

namespace Sys2Proof.Machine

variable {s : State}

/-- No guard stands before it: hard reset can be asserted at any time (R149). -/
theorem step_of_hardReset {rest : List Input} (hin : s.inputs = .hardReset :: rest) :
    step s = .next (hardReset { s with inputs := rest }) := by
  simp only [step, takeInput_some.2 ⟨rest, hin, rfl⟩]

/-- Of the bits of STATUS only HOST_LE can be 1 after hard reset, and it is the strap. -/
theorem statusWord_hardReset (s : State) :
    statusWord (hardReset s) = if s.cfg.hostLe then 0x00000080#32 else 0#32 := by
  rw [statusWord_eq_ofBoolListLE, hardReset_status, hardReset_cfg, resetWith_status]
  cases s.cfg.hostLe with
  | false => rfl
  | true => rfl

theorem errcodeWord_hardReset (s : State) : errcodeWord (hardReset s) = 0#32 := by
  rw [errcodeWord, hardReset_errcode, resetWith_errcode]
  rfl

/-- Every ring word is ⊥ (R46). -/
theorem read_hardReset_ring (s : State) (i : Nat) : Memory.read (hardReset s).ring i = none := rfl

/-- Settles O11: the step is `hardReset`; what the two words of STATUS and ERRCODE and the ring read as is in the lemmas
above, and every other register is the field of `State.resetWith`. -/
theorem hardResetValues : Obligations.HardResetValues := by
  intro s rest hin
  exact ⟨hardReset { s with inputs := rest }, step_of_hardReset hin, rfl,
    statusWord_hardReset { s with inputs := rest }, rfl, errcodeWord_hardReset _,
    rfl, rfl, rfl, rfl, rfl, rfl, rfl, rfl, rfl, rfl, rfl, rfl, rfl, read_hardReset_ring _, rfl⟩

end Sys2Proof.Machine
end

section
/-! PROOFS of the ring's representation (notes/assumptions/6.md). First what a step can do to the ring, said once
(`step_ringUpdate`): each kind of update keeps strictly rising indices. Then why the canonical list is determined by
what reads return: its first index is the least that does not read as ⊥, and its tail is what is left of the reads. -/

namespace Sys2Proof.Machine

variable {s t : State}

/-! ## What a step does to the ring -/

/-- `RingUpdate m m'`: the ring `m` was kept, had one word written (R55), was swapped below an index (R110), or was
cleared (R46). -/
inductive RingUpdate (m : Memory) : Memory → Prop where
  | kept : RingUpdate m m
  | write (i : Nat) (v : Sample) : RingUpdate m (Memory.write m i v)
  | swap (cap : Nat) : RingUpdate m (Memory.swapBelow cap m)
  | cleared : RingUpdate m []

theorem RingUpdate.wf {m m' : Memory} (h : RingUpdate m m') (hwf : Memory.wf m = true) : Memory.wf m' = true := by
  cases h with
  | kept => exact hwf
  | write i v => exact Memory.wf_write i v hwf
  | swap cap => exact Memory.wf_swapBelow cap hwf
  | cleared => rfl

theorem execCmd_ringUpdate {c : Command} (h : execCmd c s = .next t) : RingUpdate s.ring t.ring := by
  cases c with
  | bad | nop | reduce | softReset => obtain rfl := Host.Outcome.next.inj h; exact .kept
  | configure => obtain ⟨e, -, rfl⟩ | ⟨-, rfl⟩ := configureCmd_next h <;> exact .kept
  | nextFrame => obtain ⟨-, rfl⟩ | ⟨-, f, -, rfl⟩ := issueFrame_next h <;> exact .kept
  | normalize =>
    obtain ⟨-, rfl⟩ | ⟨-, -, rfl⟩ | ⟨-, -, rfl⟩ := normalizeCmd_next h
    · exact .kept
    · exact .swap s.cap.toNat
    · exact .kept
  | reduceSt idx =>
    obtain ⟨-, rfl⟩ | ⟨-, rfl⟩ := reduceStore_next h
    · exact .kept
    · exact .write idx.toNat _

theorem exec_ringUpdate {i : Instr} (h : exec i s = .next t) : RingUpdate s.ring t.ring := by
  cases exec_next h with
  | plainRead | ignored | dropped | capWrite | flenWrite | chWrite | dredInWrite | ringAddrWrite => exact .kept
  | statusWrite v => rw [(PendingKept.writeStatus v s).ring]; exact .kept
  | command _ _ hrun => exact execCmd_ringUpdate hrun
  | ringRead hrun => obtain ⟨-, rfl⟩ | ⟨-, w, -, rfl⟩ := readRing_next hrun <;> exact .kept
  | dampWrite _ hrun => obtain ⟨-, rfl⟩ | ⟨-, rfl⟩ := writeDamp_next hrun <;> exact .kept
  | ringWrite _ hrun =>
    obtain ⟨-, rfl⟩ | ⟨-, rfl⟩ := writeRing_next hrun
    · exact .kept
    · exact .write s.ringAddr.toNat _

/-- A sink result leaves the ring (R122). -/
theorem complete_ring (r : Word) (s : State) : (complete r s).ring = s.ring := by
  obtain ⟨e, -, h⟩ | ⟨-, h⟩ | ⟨-, -, -, h⟩ := complete_cases r s <;> rw [h] <;> rfl

theorem answerSink_ring (r : Word) (s : State) : (answerSink r s).ring = s.ring := by
  obtain ⟨-, h⟩ | ⟨-, h⟩ := answerSink_cases r s <;> rw [h]
  exact complete_ring r s

theorem step_ringUpdate (h : step s = .next t) : RingUpdate s.ring t.ring := by
  obtain ⟨-, rfl⟩ | ⟨a, rest, i, -, -, hrun⟩ | ⟨r, rest, -, rfl⟩ | ⟨rest, -, rfl⟩ := step_cases h
  · exact .kept
  · exact (exec_ringUpdate hrun :)
  · rw [answerSink_ring]
    exact .kept
  · exact .cleared

/-- Settles O15: a step makes one of the four updates of `RingUpdate`. -/
theorem stepKeepsRingCanonical : Obligations.StepKeepsRingCanonical :=
  fun _ _ hwf h => (step_ringUpdate h).wf hwf

/-! ## Canonical rings are told apart by what reads return -/

theorem Memory.read_cons_self (a : Nat) (v : Sample) (m : Memory) : Memory.read ((a, v) :: m) a = some v :=
  if_pos rfl

theorem Memory.read_cons_of_ne {a i : Nat} (h : a ≠ i) (v : Sample) (m : Memory) :
    Memory.read ((a, v) :: m) i = Memory.read m i :=
  if_neg h

/-- An index before every listed one reads as ⊥. -/
theorem Memory.read_eq_none_of_lt {m : Memory} {i : Nat} (h : ∀ e ∈ m, i < e.1) : Memory.read m i = none := by
  induction m with
  | nil => rfl
  | cons e rest ih =>
    obtain ⟨a, v⟩ := e
    obtain ⟨hhead, htail⟩ := List.forall_mem_cons.1 h
    rw [Memory.read_cons_of_ne hhead.ne', ih htail]

/-- The first index of a canonical ring is the least one written. -/
theorem Memory.head_le_of_read {m : Memory} {a i : Nat} {v w : Sample} (hwf : Memory.wf ((a, v) :: m) = true)
    (h : Memory.read ((a, v) :: m) i = some w) : a ≤ i := by
  obtain ⟨hlt, -⟩ := (Memory.wf_cons a v m).1 hwf
  by_contra! hi
  have hbefore : ∀ e ∈ (a, v) :: m, i < e.1 := List.forall_mem_cons.2 ⟨hi, fun e he => hi.trans (hlt e he)⟩
  exact nomatch h.symm.trans (Memory.read_eq_none_of_lt hbefore)

/-- The tail of a canonical ring reads as the whole, but for the first index, which it leaves at ⊥. -/
theorem Memory.read_tail {m : Memory} {a : Nat} {v : Sample} (hwf : Memory.wf ((a, v) :: m) = true) (i : Nat) :
    Memory.read m i = if a = i then none else Memory.read ((a, v) :: m) i := by
  obtain ⟨hlt, -⟩ := (Memory.wf_cons a v m).1 hwf
  split_ifs with hi
  · exact Memory.read_eq_none_of_lt (hi ▸ hlt)
  · exact (Memory.read_cons_of_ne hi v m).symm

/-- Only the empty ring reads as ⊥ everywhere. -/
theorem Memory.eq_nil_of_read {m : Memory} (h : ∀ i, Memory.read m i = none) : m = [] := by
  cases m with
  | nil => rfl
  | cons e rest =>
    obtain ⟨a, v⟩ := e
    exact nomatch (Memory.read_cons_self a v rest).symm.trans (h a)

theorem Memory.ext_read {m n : Memory} (hm : Memory.wf m = true) (hn : Memory.wf n = true)
    (h : ∀ i, Memory.read m i = Memory.read n i) : m = n := by
  induction m generalizing n with
  | nil => exact (Memory.eq_nil_of_read fun i => (h i).symm).symm
  | cons e m ih =>
    obtain ⟨a, v⟩ := e
    cases n with
    | nil => exact Memory.eq_nil_of_read h
    | cons e n =>
      obtain ⟨b, w⟩ := e
      obtain ⟨-, hm'⟩ := (Memory.wf_cons a v m).1 hm
      obtain ⟨-, hn'⟩ := (Memory.wf_cons b w n).1 hn
      have hab : a = b := le_antisymm
        (Memory.head_le_of_read hm ((h b).trans (Memory.read_cons_self b w n)))
        (Memory.head_le_of_read hn ((h a).symm.trans (Memory.read_cons_self a v m)))
      subst hab
      have hvw : v = w := Option.some.inj
        ((Memory.read_cons_self a v m).symm.trans ((h a).trans (Memory.read_cons_self a w n)))
      have htail : m = n := ih hm' hn' fun i => by rw [Memory.read_tail hm, Memory.read_tail hn, h]
      rw [hvw, htail]

/-- Settles O16: first index, its word and the tail, by induction on the list (`Memory.ext_read`). -/
theorem canonicalRingsEqualWhenReadsAgree : Obligations.CanonicalRingsEqualWhenReadsAgree :=
  fun _ _ => Memory.ext_read

end Sys2Proof.Machine
end
